-- ==== Sys2Proof/Word.lean ====
section
/-! DEFINITION. The words of the block: every quantity is an unsigned bit string of a fixed width
(00_scope R10, R11, R13). -/

namespace Sys2Proof

/-- `Byte` of R13: a MIDI byte or a byte operand of a command word. -/
abbrev Byte := BitVec 8

/-- `Nib` of R13: a status nibble, a channel, a kind operand. -/
abbrev Nib := BitVec 4

/-- `U7` of R13: a data value. -/
abbrev U7 := BitVec 7

/-- `U14` of R13: the combined value. -/
abbrev U14 := BitVec 14

/-- The command word `CW` (30_encoding R92). -/
abbrev Word := BitVec 32

end Sys2Proof
end

