-- ==== Sys2Proof/Kinds.lean ====
section
/-! DEFINITION. The enumerations of 00_scope R13 and what the host can present (10_state R37). -/

namespace Sys2Proof

/-- `CVKind` of R13, in the source's order. -/
inductive CVKind where
  | noteOff
  | noteOn
  | polyphonicAftertouch
  | controllerChange
  | programChange
  | channelAftertouch
  | pitchWheel
deriving DecidableEq, Repr

/-- `SysKind` of R13. `other` is the unsupported variant and `none` says that the byte is no system
command; the two are distinct (90_conflicts C1). -/
inductive SysKind where
  | sysEx
  | songPosition
  | songSelect
  | tuneRequest
  | sysExEnd
  | timingClock
  | start
  | cont
  | stop
  | activeSensing
  | systemReset
  | other
  | none
deriving DecidableEq, Repr

/-- The kind of a message as a sum (40_classification R113). -/
inductive Kind where
  | cv (k : CVKind)
  | sys (k : SysKind)
deriving DecidableEq, Repr

/-- `Len` of R13. -/
inductive Len where
  | unknown
  | one
  | two
  | three
deriving DecidableEq, Repr

/-- `Diag` of R13. -/
inductive Diag where
  | noDiag
  | clock
  | sysEx
  | sysExEnd
  | systemReset
  | otherCommand
deriving DecidableEq, Repr

/-- What the STATUS field of a response can say: OK or one of the three faults of R13
(60_exceptions R217). These are the block's own faults; none of them stops the machine (R222). -/
inductive Status where
  | ok
  | unknownStatus
  | illegalCommand
  | noEvent
deriving DecidableEq, Repr

/-- The three answers of the dispatcher (40_classification R110). -/
inductive MsgClass where
  | channelVoice
  | system
  | notStatus
deriving DecidableEq, Repr

/-- The complete set of field names of a mapping (44_publish R207). -/
inductive FieldName where
  | note
  | velocity
  | pressure
  | control
  | value
  | program
  | pitchWheel
  | channel
deriving DecidableEq, Repr

/-- What the host presents at one step: a 32-bit command word (10_state R37), or a three-byte MIDI
packet (00_scope R5 (a), "raw three-byte MIDI packets"), which is the message space of
opcode_table.json (30_encoding R106) and runs as the DEC of its bytes.
DESIGN CHOICE (safe): the second form, log 2. -/
inductive Presented where
  | word (cw : Word)
  | packet (b0 b1 b2 : Byte)
deriving DecidableEq, Repr

end Sys2Proof
end

