-- ==== Sys2Proof/Machine/Operands.lean ====
section
/-! DEFINITION. The bit-field arithmetic of the block: masks, nibble split, byte assembly and the
14-bit value (30_encoding R84 to R87, R98, 43_accessors R189). -/

namespace Sys2Proof.Machine

/-- `b[7:4]`, the high nibble (00_scope R10). -/
def hiNib (b : Byte) : Nib := (b >>> 4).setWidth 4

/-- `b[3:0]`, the low nibble: `b & 0xF` (R84). -/
def loNib (b : Byte) : Nib := (b &&& 0x0F#8).setWidth 4

/-- `b & 0x7F` (R85): bit 7 is dropped, not checked. -/
def data7 (b : Byte) : U7 := (b &&& 0x7F#8).setWidth 7

/-- `{0, v}`: a data value as a wire byte, bit 7 clear (10_state R22). -/
def dataByte (v : U7) : Byte := v.setWidth 8

/-- The byte whose high nibble is `h` and whose low nibble is `l`. -/
def nibbles (h l : Nib) : Byte := (h.setWidth 8 <<< 4) ||| l.setWidth 8

/-- `(kindNibble << 4) | (channel & 0xF)`, eight bits (R87, 42_encode R160). -/
def statusByte (k : Nib) (channel : Byte) : Byte := (k.setWidth 8 <<< 4) ||| (channel &&& 0x0F#8)

/-- `0xF0 | K`, the literal command byte (R98, 42_encode R161). -/
def commandByte (k : Nib) : Byte := 0xF0#8 ||| k.setWidth 8

/-- A byte that is no status byte: bit 7 clear, the other bits given (R90). -/
def nonStatusByte (low : U7) : Byte := low.setWidth 8

/-- `data1 + (data2 << 7)` (R86, 20_memory R62). -/
def combined (d1 d2 : U7) : U14 := d1.setWidth 14 + (d2.setWidth 14 <<< 7)

/-- `CW[31:28]`, the operation code (R92). -/
def opField (w : Word) : Nib := (w >>> 28).setWidth 4

/-- `CW[27:24]`, the kind operand (R92). -/
def kField (w : Word) : Nib := (w >>> 24).setWidth 4

/-- `CW[23:16]`, byte operand 0 (R92). -/
def x0Field (w : Word) : Byte := (w >>> 16).setWidth 8

/-- `CW[15:8]`, byte operand 1 (R92). -/
def x1Field (w : Word) : Byte := (w >>> 8).setWidth 8

/-- `CW[7:0]`, byte operand 2 (R92). -/
def x2Field (w : Word) : Byte := w.setWidth 8

/-- The command word with the given fields (R92, R104). -/
def commandWord (op k : Nib) (x0 x1 x2 : Byte) : Word :=
  (op.setWidth 32 <<< 28) ||| (k.setWidth 32 <<< 24) ||| (x0.setWidth 32 <<< 16)
    ||| (x1.setWidth 32 <<< 8) ||| x2.setWidth 32

end Sys2Proof.Machine
end

