-- ==== Sys2Proof/Syntax.lean ====
section
/-! DEFINITION. The instructions: one constructor per row of spec/opcode_table.json (30_encoding R106). -/

namespace Sys2Proof

/-- The rows of the opcode table.

The rows of the space `midi_byte0` are MIDI messages; a channel-voice row carries its channel, every
row carries the two further bytes of the packet, used or not (20_memory R78). A system row is the row
of its byte 0; the kind that byte stands for is the configuration's: DESIGN CHOICE (safe), log 12.
The rows of the space `command_word` carry the fields the operation uses (30_encoding R94).
The pseudo-operations `build…` are the assembler's (R105): no word decodes to one (R106): DESIGN CHOICE (safe),
log 11. -/
inductive Instr where
  -- MIDI messages selected by the high nibble of byte 0 (R88)
  | noteOff (ch : Nib) (b1 b2 : Byte)
  | noteOn (ch : Nib) (b1 b2 : Byte)
  | polyphonicAftertouch (ch : Nib) (b1 b2 : Byte)
  | controllerChange (ch : Nib) (b1 b2 : Byte)
  | programChange (ch : Nib) (b1 b2 : Byte)
  | channelAftertouch (ch : Nib) (b1 b2 : Byte)
  | pitchWheel (ch : Nib) (b1 b2 : Byte)
  -- MIDI messages selected by the whole of byte 0 (R89)
  | sysEx (b1 b2 : Byte)
  | otherF1 (b1 b2 : Byte)
  | songPosition (b1 b2 : Byte)
  | songSelect (b1 b2 : Byte)
  | otherF4 (b1 b2 : Byte)
  | otherF5 (b1 b2 : Byte)
  | tuneRequest (b1 b2 : Byte)
  | sysExEnd (b1 b2 : Byte)
  | timingClock (b1 b2 : Byte)
  | otherF9 (b1 b2 : Byte)
  | startMsg (b1 b2 : Byte)
  | continueMsg (b1 b2 : Byte)
  | stopMsg (b1 b2 : Byte)
  | otherFD (b1 b2 : Byte)
  | activeSensing (b1 b2 : Byte)
  | systemReset (b1 b2 : Byte)
  -- byte 0 with bit 7 clear (R90); `low` is its other seven bits
  | notStatus (low : U7) (b1 b2 : Byte)
  -- the seven operations (R93)
  | dec (b0 b1 b2 : Byte)
  | encv (k : Nib) (channel byte1 byte2 : Byte)
  | encs (k : Nib) (byte1 byte2 : Byte)
  | pub
  | clsv (n : Nib)
  | clss (b : Byte)
  | frm (st d : Byte)
  -- reserved operation codes (R95)
  | reservedOp0
  | reservedOp8
  | reservedOp9
  | reservedOp10
  | reservedOp11
  | reservedOp12
  | reservedOp13
  | reservedOp14
  | reservedOp15
  -- ENCV with a nibble that names no kind (R96)
  | encvIllegalK0
  | encvIllegalK1
  | encvIllegalK2
  | encvIllegalK3
  | encvIllegalK4
  | encvIllegalK5
  | encvIllegalK6
  | encvIllegalK7
  | encvIllegalK15
  -- pseudo-operations (42_encode R168 to R171)
  | buildNoteOn (note velocity channel : Byte)
  | buildNoteOff (note velocity channel : Byte)
  | buildProgramChange (program channel : Byte)
  | buildControllerChange (control value channel : Byte)
deriving DecidableEq, Repr

end Sys2Proof
end

