-- ==== Sys2Proof/WellFormed.lean ====
section
/-! DEFINITION. Which instructions are written as the spec writes them. -/

namespace Sys2Proof

/-- ENCV names a channel-voice kind: its nibble is 8 to 14 (30_encoding R96, R104). The words of ENCV
with another nibble are the rows `ENCV_ILLEGAL_K…`. Every other operand may have any value (R85, R98). -/
def Instr.wellFormed : Instr → Bool
  | .encv k _ _ _ => decide (8#4 ≤ k ∧ k ≤ 14#4)
  | _ => true

/-- The pseudo-operations of 30_encoding R105. -/
def Instr.isPseudo : Instr → Bool
  | .buildNoteOn _ _ _ => true
  | .buildNoteOff _ _ _ => true
  | .buildProgramChange _ _ => true
  | .buildControllerChange _ _ _ => true
  | _ => false

end Sys2Proof
end

