-- ==== Sys2Proof/Decode.lean ====
section
/-! DEFINITION. From what the host presents to an instruction and back (30_encoding Part A.4, Part B).
Decoding is total: every command word and every packet is some row of the table (10_state R49), and the
reserved ones are rows of their own, so nothing falls through to a neighbour. -/

namespace Sys2Proof

open Sys2Proof.Machine

/-- The row of a system message, by the low nibble of byte 0 (R89). -/
def decodeSystemMessage (lo : Nib) (b1 b2 : Byte) : Instr :=
  match lo.toNat with
  | 0 => .sysEx b1 b2
  | 1 => .otherF1 b1 b2
  | 2 => .songPosition b1 b2
  | 3 => .songSelect b1 b2
  | 4 => .otherF4 b1 b2
  | 5 => .otherF5 b1 b2
  | 6 => .tuneRequest b1 b2
  | 7 => .sysExEnd b1 b2
  | 8 => .timingClock b1 b2
  | 9 => .otherF9 b1 b2
  | 10 => .startMsg b1 b2
  | 11 => .continueMsg b1 b2
  | 12 => .stopMsg b1 b2
  | 13 => .otherFD b1 b2
  | 14 => .activeSensing b1 b2
  | _ => .systemReset b1 b2

/-- The row of a MIDI message, by byte 0 (R81, R88, R89, R90). -/
def decodePacket (b0 b1 b2 : Byte) : Instr :=
  match (hiNib b0).toNat with
  | 8 => .noteOff (loNib b0) b1 b2
  | 9 => .noteOn (loNib b0) b1 b2
  | 10 => .polyphonicAftertouch (loNib b0) b1 b2
  | 11 => .controllerChange (loNib b0) b1 b2
  | 12 => .programChange (loNib b0) b1 b2
  | 13 => .channelAftertouch (loNib b0) b1 b2
  | 14 => .pitchWheel (loNib b0) b1 b2
  | 15 => decodeSystemMessage (loNib b0) b1 b2
  | _ => .notStatus (data7 b0) b1 b2

/-- The row of an ENCV word, by its nibble: the longer mask first (R96, R106). The rows of the
pseudo-operations are skipped (R106). -/
def decodeEncv (k : Nib) (x0 x1 x2 : Byte) : Instr :=
  match k.toNat with
  | 0 => .encvIllegalK0
  | 1 => .encvIllegalK1
  | 2 => .encvIllegalK2
  | 3 => .encvIllegalK3
  | 4 => .encvIllegalK4
  | 5 => .encvIllegalK5
  | 6 => .encvIllegalK6
  | 7 => .encvIllegalK7
  | 15 => .encvIllegalK15
  | _ => .encv k x0 x1 x2

/-- The row of a command word with the given fields, by the operation code (R93, R95). -/
def decodeFields (op k : Nib) (x0 x1 x2 : Byte) : Instr :=
  match op.toNat with
  | 0 => .reservedOp0
  | 1 => .dec x0 x1 x2
  | 2 => decodeEncv k x0 x1 x2
  | 3 => .encs k x1 x2
  | 4 => .pub
  | 5 => .clsv k
  | 6 => .clss x0
  | 7 => .frm x0 x1
  | 8 => .reservedOp8
  | 9 => .reservedOp9
  | 10 => .reservedOp10
  | 11 => .reservedOp11
  | 12 => .reservedOp12
  | 13 => .reservedOp13
  | 14 => .reservedOp14
  | _ => .reservedOp15

/-- The instruction the block reads from what the host presents. -/
def decode : Presented → Instr
  | .word w => decodeFields (opField w) (kField w) (x0Field w) (x1Field w) (x2Field w)
  | .packet b0 b1 b2 => decodePacket b0 b1 b2

/-- The expansion of a pseudo-operation, each one ENCV; any other instruction is itself
(42_encode R168 to R171). -/
def expand : Instr → Instr
  | .buildNoteOn note velocity channel => .encv 9#4 channel note velocity
  | .buildNoteOff note velocity channel => .encv 8#4 channel note velocity
  | .buildProgramChange program channel => .encv 12#4 channel program 0#8
  | .buildControllerChange control value channel => .encv 11#4 channel control value
  | i => i

/-- What the host presents to have an instruction run: the words of R104 and R168 to R171, with 0 in
the fields the operation does not use (R94), and the bytes of R88 to R90. -/
def encode : Instr → Presented
  | .noteOff ch b1 b2 => .packet (nibbles 8#4 ch) b1 b2
  | .noteOn ch b1 b2 => .packet (nibbles 9#4 ch) b1 b2
  | .polyphonicAftertouch ch b1 b2 => .packet (nibbles 10#4 ch) b1 b2
  | .controllerChange ch b1 b2 => .packet (nibbles 11#4 ch) b1 b2
  | .programChange ch b1 b2 => .packet (nibbles 12#4 ch) b1 b2
  | .channelAftertouch ch b1 b2 => .packet (nibbles 13#4 ch) b1 b2
  | .pitchWheel ch b1 b2 => .packet (nibbles 14#4 ch) b1 b2
  | .sysEx b1 b2 => .packet 0xF0#8 b1 b2
  | .otherF1 b1 b2 => .packet 0xF1#8 b1 b2
  | .songPosition b1 b2 => .packet 0xF2#8 b1 b2
  | .songSelect b1 b2 => .packet 0xF3#8 b1 b2
  | .otherF4 b1 b2 => .packet 0xF4#8 b1 b2
  | .otherF5 b1 b2 => .packet 0xF5#8 b1 b2
  | .tuneRequest b1 b2 => .packet 0xF6#8 b1 b2
  | .sysExEnd b1 b2 => .packet 0xF7#8 b1 b2
  | .timingClock b1 b2 => .packet 0xF8#8 b1 b2
  | .otherF9 b1 b2 => .packet 0xF9#8 b1 b2
  | .startMsg b1 b2 => .packet 0xFA#8 b1 b2
  | .continueMsg b1 b2 => .packet 0xFB#8 b1 b2
  | .stopMsg b1 b2 => .packet 0xFC#8 b1 b2
  | .otherFD b1 b2 => .packet 0xFD#8 b1 b2
  | .activeSensing b1 b2 => .packet 0xFE#8 b1 b2
  | .systemReset b1 b2 => .packet 0xFF#8 b1 b2
  | .notStatus low b1 b2 => .packet (nonStatusByte low) b1 b2
  | .dec b0 b1 b2 => .word (commandWord 1#4 0#4 b0 b1 b2)
  | .encv k channel byte1 byte2 => .word (commandWord 2#4 k channel byte1 byte2)
  | .encs k byte1 byte2 => .word (commandWord 3#4 k 0#8 byte1 byte2)
  | .pub => .word (commandWord 4#4 0#4 0#8 0#8 0#8)
  | .clsv n => .word (commandWord 5#4 n 0#8 0#8 0#8)
  | .clss b => .word (commandWord 6#4 0#4 b 0#8 0#8)
  | .frm st d => .word (commandWord 7#4 0#4 st d 0#8)
  | .reservedOp0 => .word (commandWord 0#4 0#4 0#8 0#8 0#8)
  | .reservedOp8 => .word (commandWord 8#4 0#4 0#8 0#8 0#8)
  | .reservedOp9 => .word (commandWord 9#4 0#4 0#8 0#8 0#8)
  | .reservedOp10 => .word (commandWord 10#4 0#4 0#8 0#8 0#8)
  | .reservedOp11 => .word (commandWord 11#4 0#4 0#8 0#8 0#8)
  | .reservedOp12 => .word (commandWord 12#4 0#4 0#8 0#8 0#8)
  | .reservedOp13 => .word (commandWord 13#4 0#4 0#8 0#8 0#8)
  | .reservedOp14 => .word (commandWord 14#4 0#4 0#8 0#8 0#8)
  | .reservedOp15 => .word (commandWord 15#4 0#4 0#8 0#8 0#8)
  | .encvIllegalK0 => .word (commandWord 2#4 0#4 0#8 0#8 0#8)
  | .encvIllegalK1 => .word (commandWord 2#4 1#4 0#8 0#8 0#8)
  | .encvIllegalK2 => .word (commandWord 2#4 2#4 0#8 0#8 0#8)
  | .encvIllegalK3 => .word (commandWord 2#4 3#4 0#8 0#8 0#8)
  | .encvIllegalK4 => .word (commandWord 2#4 4#4 0#8 0#8 0#8)
  | .encvIllegalK5 => .word (commandWord 2#4 5#4 0#8 0#8 0#8)
  | .encvIllegalK6 => .word (commandWord 2#4 6#4 0#8 0#8 0#8)
  | .encvIllegalK7 => .word (commandWord 2#4 7#4 0#8 0#8 0#8)
  | .encvIllegalK15 => .word (commandWord 2#4 15#4 0#8 0#8 0#8)
  | .buildNoteOn note velocity channel => .word (commandWord 2#4 9#4 channel note velocity)
  | .buildNoteOff note velocity channel => .word (commandWord 2#4 8#4 channel note velocity)
  | .buildProgramChange program channel => .word (commandWord 2#4 12#4 channel program 0#8)
  | .buildControllerChange control value channel =>
      .word (commandWord 2#4 11#4 channel control value)

/-- A row of spec/opcode_table.json: the space it belongs to, its mask and its match (30_encoding R106). -/
inductive TableRow where
  | byte0 (mask pattern : Byte)
  | word (mask pattern : Word)
deriving DecidableEq, Repr

/-- The row of an instruction, as the table gives it. -/
def tableRow : Instr → TableRow
  | .noteOff _ _ _ => .byte0 0xF0#8 0x80#8
  | .noteOn _ _ _ => .byte0 0xF0#8 0x90#8
  | .polyphonicAftertouch _ _ _ => .byte0 0xF0#8 0xA0#8
  | .controllerChange _ _ _ => .byte0 0xF0#8 0xB0#8
  | .programChange _ _ _ => .byte0 0xF0#8 0xC0#8
  | .channelAftertouch _ _ _ => .byte0 0xF0#8 0xD0#8
  | .pitchWheel _ _ _ => .byte0 0xF0#8 0xE0#8
  | .sysEx _ _ => .byte0 0xFF#8 0xF0#8
  | .otherF1 _ _ => .byte0 0xFF#8 0xF1#8
  | .songPosition _ _ => .byte0 0xFF#8 0xF2#8
  | .songSelect _ _ => .byte0 0xFF#8 0xF3#8
  | .otherF4 _ _ => .byte0 0xFF#8 0xF4#8
  | .otherF5 _ _ => .byte0 0xFF#8 0xF5#8
  | .tuneRequest _ _ => .byte0 0xFF#8 0xF6#8
  | .sysExEnd _ _ => .byte0 0xFF#8 0xF7#8
  | .timingClock _ _ => .byte0 0xFF#8 0xF8#8
  | .otherF9 _ _ => .byte0 0xFF#8 0xF9#8
  | .startMsg _ _ => .byte0 0xFF#8 0xFA#8
  | .continueMsg _ _ => .byte0 0xFF#8 0xFB#8
  | .stopMsg _ _ => .byte0 0xFF#8 0xFC#8
  | .otherFD _ _ => .byte0 0xFF#8 0xFD#8
  | .activeSensing _ _ => .byte0 0xFF#8 0xFE#8
  | .systemReset _ _ => .byte0 0xFF#8 0xFF#8
  | .notStatus _ _ _ => .byte0 0x80#8 0x00#8
  | .dec _ _ _ => .word 0xF0000000#32 0x10000000#32
  | .encv _ _ _ _ => .word 0xF0000000#32 0x20000000#32
  | .encs _ _ _ => .word 0xF0000000#32 0x30000000#32
  | .pub => .word 0xF0000000#32 0x40000000#32
  | .clsv _ => .word 0xF0000000#32 0x50000000#32
  | .clss _ => .word 0xF0000000#32 0x60000000#32
  | .frm _ _ => .word 0xF0000000#32 0x70000000#32
  | .reservedOp0 => .word 0xF0000000#32 0x00000000#32
  | .reservedOp8 => .word 0xF0000000#32 0x80000000#32
  | .reservedOp9 => .word 0xF0000000#32 0x90000000#32
  | .reservedOp10 => .word 0xF0000000#32 0xA0000000#32
  | .reservedOp11 => .word 0xF0000000#32 0xB0000000#32
  | .reservedOp12 => .word 0xF0000000#32 0xC0000000#32
  | .reservedOp13 => .word 0xF0000000#32 0xD0000000#32
  | .reservedOp14 => .word 0xF0000000#32 0xE0000000#32
  | .reservedOp15 => .word 0xF0000000#32 0xF0000000#32
  | .encvIllegalK0 => .word 0xFF000000#32 0x20000000#32
  | .encvIllegalK1 => .word 0xFF000000#32 0x21000000#32
  | .encvIllegalK2 => .word 0xFF000000#32 0x22000000#32
  | .encvIllegalK3 => .word 0xFF000000#32 0x23000000#32
  | .encvIllegalK4 => .word 0xFF000000#32 0x24000000#32
  | .encvIllegalK5 => .word 0xFF000000#32 0x25000000#32
  | .encvIllegalK6 => .word 0xFF000000#32 0x26000000#32
  | .encvIllegalK7 => .word 0xFF000000#32 0x27000000#32
  | .encvIllegalK15 => .word 0xFF000000#32 0x2F000000#32
  | .buildNoteOn _ _ _ => .word 0xFF000000#32 0x29000000#32
  | .buildNoteOff _ _ _ => .word 0xFF000000#32 0x28000000#32
  | .buildProgramChange _ _ => .word 0xFF000000#32 0x2C000000#32
  | .buildControllerChange _ _ _ => .word 0xFF000000#32 0x2B000000#32

/-- Whether what the host presents matches a row. -/
def TableRow.matches : TableRow → Presented → Bool
  | .byte0 mask pattern, .packet b0 _ _ => (b0 &&& mask) == pattern
  | .word mask pattern, .word w => (w &&& mask) == pattern
  | .byte0 _ _, .word _ => false
  | .word _ _, .packet _ _ _ => false

/-- How many bits a row's mask fixes. -/
def TableRow.fixedBits : TableRow → Nat
  | .byte0 mask _ => mask.cpop.toNat
  | .word mask _ => mask.cpop.toNat

/-- What the host presents for `nbits` bits numbered as opcode_table.json numbers them: the rows of the
space `midi_byte0` have 8 bits (byte 0; bytes 1 and 2 would be bits 15..8 and 23..16), those of the
space `command_word` have 32. DESIGN CHOICE (safe): log 2. -/
def tablePresented (nbits w : Nat) : Presented :=
  if nbits ≤ 24 then
    .packet (BitVec.ofNat 8 (w % 2 ^ nbits)) (BitVec.ofNat 8 (w % 2 ^ nbits / 2 ^ 8))
      (BitVec.ofNat 8 (w % 2 ^ nbits / 2 ^ 16))
  else .word (BitVec.ofNat 32 (w % 2 ^ nbits))

/-- The instruction the decoder reads from a word of the opcode table. -/
def decodeTableWord (nbits w : Nat) : Option Instr := some (decode (tablePresented nbits w))

end Sys2Proof
end

