-- ==== Sys2Proof/Machine/Flags.lean ====
section
/-! DEFINITION. The stored length flag, and the codes of kinds, lengths, diagnostics and faults on the
ports (10_state R41 to R43, 44_publish R201, 60_exceptions R217). -/

namespace Sys2Proof.Machine

/-- `nib` of 40_classification R111: the source's `kindNibble`, also the code of the kind on the
ports `CVK` and `R_CVK` (10_state R41). -/
def cvCode : CVKind → Nib
  | .noteOff => 8#4
  | .noteOn => 9#4
  | .polyphonicAftertouch => 10#4
  | .controllerChange => 11#4
  | .programChange => 12#4
  | .channelAftertouch => 13#4
  | .pitchWheel => 14#4

/-- The code of a system kind on the ports `SCK` and `R_SCK` (10_state R42). -/
def sysCode : SysKind → Nib
  | .none => 0#4
  | .sysEx => 1#4
  | .songPosition => 2#4
  | .songSelect => 3#4
  | .tuneRequest => 4#4
  | .sysExEnd => 5#4
  | .timingClock => 6#4
  | .start => 7#4
  | .cont => 8#4
  | .stop => 9#4
  | .activeSensing => 10#4
  | .systemReset => 11#4
  | .other => 12#4

/-- `LENV` of a length: whether it is known (10_state R43). -/
def lenKnown : Len → Bool
  | .unknown => false
  | .one => true
  | .two => true
  | .three => true

/-- `LEN` of a length: the number, 0 when it is not known (10_state R43). -/
def lenBits : Len → BitVec 2
  | .unknown => 0#2
  | .one => 1#2
  | .two => 2#2
  | .three => 3#2

/-- The length that `LENV` and `LEN` hold (10_state R23). `LENV = 1` with `LEN = 0` never occurs; it
is read as unknown: DESIGN CHOICE (safe), log 13. -/
def lenOf (lenv : Bool) (len : BitVec 2) : Len :=
  if lenv = true then
    match len.toNat with
    | 1 => .one
    | 2 => .two
    | 3 => .three
    | _ => .unknown
  else .unknown

/-- The code of a diagnostic (44_publish R201). -/
def diagCode : Diag → BitVec 3
  | .noDiag => 0#3
  | .clock => 1#3
  | .sysEx => 2#3
  | .sysExEnd => 3#3
  | .systemReset => 4#3
  | .otherCommand => 5#3

/-- The code of the STATUS field (60_exceptions R217). -/
def statusCode : Status → BitVec 2
  | .ok => 0#2
  | .unknownStatus => 1#2
  | .illegalCommand => 2#2
  | .noEvent => 3#2

end Sys2Proof.Machine
end

