-- ==== Sys2Proof/Config.lean ====
section
/-! DEFINITION. The parameters of the block (00_scope R8) and the values the spec leaves unspecified
(10_state R24, R46). -/

namespace Sys2Proof

/-- `SYSCMD_BYTE` of R8: the low nibble of the command byte of each named system kind. The high nibble
is 15 for all of them, and TimingClock is 0xF8 in every table, so neither is stored. -/
structure SysCmdTable where
  sysEx : Nib
  songPosition : Nib
  songSelect : Nib
  tuneRequest : Nib
  sysExEnd : Nib
  start : Nib
  cont : Nib
  stop : Nib
  activeSensing : Nib
  systemReset : Nib
deriving DecidableEq, Repr

/-- The low nibble of the command byte of a kind; `Other` and `None` have no command byte (R112). -/
def SysCmdTable.nibOf (t : SysCmdTable) : SysKind → Option Nib
  | .sysEx => some t.sysEx
  | .songPosition => some t.songPosition
  | .songSelect => some t.songSelect
  | .tuneRequest => some t.tuneRequest
  | .sysExEnd => some t.sysExEnd
  | .timingClock => some 8#4
  | .start => some t.start
  | .cont => some t.cont
  | .stop => some t.stop
  | .activeSensing => some t.activeSensing
  | .systemReset => some t.systemReset
  | .other => Option.none
  | .none => Option.none

/-- The eleven named system kinds in the order the source lists them (40_classification R112). -/
def namedSysKinds : List SysKind :=
  [.sysEx, .songPosition, .songSelect, .tuneRequest, .sysExEnd, .timingClock,
   .start, .cont, .stop, .activeSensing, .systemReset]

/-- The configuration of an instance: constants, never written by an operation (R8, 10_state R30). -/
structure Config where
  /-- `CC_THRESHOLD`. -/
  ccThreshold : Nat
  /-- `CC_LOCAL`. -/
  ccLocal : U7
  /-- `SYSCMD_BYTE`. -/
  sysCmd : SysCmdTable
deriving DecidableEq, Repr

/-- The constraints of R8: 8 ≤ `CC_THRESHOLD` ≤ 128, `SYSCMD_BYTE` injective. The other constraints
hold by the types. -/
abbrev Config.Wf (c : Config) : Prop :=
  8 ≤ c.ccThreshold ∧ c.ccThreshold ≤ 128 ∧ (namedSysKinds.map c.sysCmd.nibOf).Nodup

/-- The value of `RAW0` where the spec leaves it unspecified (10_state R24, R46, 41_decode R150): a
free value, nothing constrains it. DESIGN CHOICE (unsafe where two draws of one counter are taken for
equal), log 5. -/
opaque Config.freeRaw0 : Nat → Byte
/-- As `Config.freeRaw0`, for `RAW1`. -/
opaque Config.freeRaw1 : Nat → U7
/-- As `Config.freeRaw0`, for `RAW2`. -/
opaque Config.freeRaw2 : Nat → U7
/-- As `Config.freeRaw0`, for `LENV`. -/
opaque Config.freeLenv : Nat → Bool
/-- As `Config.freeRaw0`, for `LEN`. -/
opaque Config.freeLen : Nat → BitVec 2

end Sys2Proof
end

