-- ==== Sys2Proof/Machine/Params.lean ====
section
/-! DEFINITION. The default values of the parameters (00_scope R8). -/

namespace Sys2Proof.Machine

/-- The command bytes of 40_classification R112: F0, F2, F3, F6, F7, (F8,) FA, FB, FC, FE, FF.
PRESUMED (unsafe): the spec takes all but F8 from general knowledge, log 8. -/
def midi1Table : SysCmdTable where
  sysEx := 0x0#4
  songPosition := 0x2#4
  songSelect := 0x3#4
  tuneRequest := 0x6#4
  sysExEnd := 0x7#4
  start := 0xA#4
  cont := 0xB#4
  stop := 0xC#4
  activeSensing := 0xE#4
  systemReset := 0xF#4

/-- The default configuration of R8. PRESUMED (unsafe): the spec takes 96 and 122 from general
knowledge, log 7. -/
def defaultConfig : Config where
  ccThreshold := 96
  ccLocal := 122#7
  sysCmd := midi1Table

end Sys2Proof.Machine
end

