-- ==== Sys2Proof/Machine/State.lean ====
section
/-! DEFINITION. The state: the event register, and beside it the arguments and the results of the
block's step function (10_state R20, R35, R49), all of it plain data. -/

namespace Sys2Proof.Machine

/-- The event register `EV` (10_state R20). -/
structure Event where
  /-- `EVV`: the register holds an event (R24). -/
  evv : Bool
  /-- `RAW0`: the status/command byte (R21). -/
  raw0 : Byte
  /-- `RAW1`: the first data value, also `data1` (R22). -/
  raw1 : U7
  /-- `RAW2`: the second data value, also `data2` (R22). -/
  raw2 : U7
  /-- `LENV`: the length is known (R23). -/
  lenv : Bool
  /-- `LEN`: the byte count when it is known, else 0 (R23). -/
  len : BitVec 2
deriving DecidableEq, Repr

/-- The response record (10_state R40). -/
structure Response where
  /-- `STATUS` (60_exceptions R217). -/
  status : BitVec 2
  /-- `R_CVK` (10_state R41). -/
  cvk : Nib
  /-- `R_SCK` (10_state R42). -/
  sck : Nib
  /-- `R_LENV` (10_state R43). -/
  lenv : Bool
  /-- `R_LEN` (10_state R43). -/
  len : BitVec 2
  /-- `PUBLISHED` (44_publish R199). -/
  published : Bool
  /-- `DIAG` (44_publish R201). -/
  diag : BitVec 3
deriving DecidableEq, Repr

/-- A publish record as the bus keeps it: the topic and the mapping of field names to numbers
(10_state R36, 44_publish R202, R203). DESIGN CHOICE (safe): the finite map is a list of pairs in the
order the spec writes them, log 14. -/
structure Publication where
  topic : CVKind
  mapping : List (FieldName × Nat)
deriving DecidableEq, Repr

/-- A publish record as it looks on the bus port (44_publish R204). -/
structure BusWire where
  /-- `P_TOPIC`. -/
  topic : Nib
  /-- `P_A`: the first named field, zero-extended. -/
  a : U14
  /-- `P_B`: the second named field, or 0. -/
  b : U7
  /-- `P_BV`: there is a second named field. -/
  bv : Bool
  /-- `P_CH`: the `channel` field. -/
  ch : Nib
deriving DecidableEq, Repr

/-- The state. DESIGN CHOICE (safe): the arguments `cfg` and `cw` of 10_state R49's step function and
its results `rsp` and `pubs` stand in State beside `EV`, because the host's step takes and gives a
state alone (log 1). -/
structure State where
  /-- The configuration of the instance; no operation writes it (10_state R30, R48). -/
  cfg : Config
  /-- The event register. -/
  ev : Event
  /-- The command words (or packets) the host presents, the next one first (10_state R37, 70 R254). -/
  cmds : List Presented
  /-- The response of the last step; none before the first (10_state R40, R47). -/
  rsp : Option Response
  /-- The bus port at the last step: a record at a step that publishes, else nothing (R39). -/
  busPort : Option BusWire
  /-- `BUS`, the event-bus history, oldest first (10_state R36). -/
  bus : List Publication
  /-- The model's own: how many free values have been drawn (DESIGN CHOICE, log 5). -/
  free : Nat
deriving DecidableEq, Repr

/-- Why the machine stops. The block itself never does (10_state R49, 60_exceptions R222): its faults
are responses. -/
inductive Fault where
  /-- Raised by `step` alone, when the host presents nothing: the run has ended (70 R254).
  Safe: no command word is left to answer. DESIGN CHOICE, log 3. -/
  | noCommand
deriving DecidableEq, Repr

/-- Why an instruction has no meaning. -/
inductive Refusal where
  /-- Raised by an arm of `exec` for an instruction not modelled yet; no arm raises it now. Safe. -/
  | notModelled (mnemonic : String)
deriving DecidableEq, Repr

/-- The event register with its valid bit clear and every other field unspecified (10_state R24): the
`n`-th free values of `Config`. -/
def unspecifiedEvent (n : Nat) : Event where
  evv := false
  raw0 := Config.freeRaw0 n
  raw1 := Config.freeRaw1 n
  raw2 := Config.freeRaw2 n
  lenv := Config.freeLenv n
  len := Config.freeLen n

/-- The state right after reset (10_state R46 to R48): `EVV` clear, the rest of `EV` unspecified,
nothing published, no response, the configuration at its built-in constants; nothing presented yet. -/
def State.reset : State where
  cfg := defaultConfig
  ev := unspecifiedEvent 0
  cmds := []
  rsp := none
  busPort := none
  bus := []
  free := 1

end Sys2Proof.Machine
end

