-- ==== Sys2Proof/Machine/Tables.lean ====
section
/-! DEFINITION. The Message Classification Tables: the status dispatcher and the variable-length framer
(40_classification R110 to R117), and the diagnostic table (44_publish R200). -/

namespace Sys2Proof.Machine

/-- Dispatch on the high nibble of byte 0 (R110). -/
def classOf (b0 : Byte) : MsgClass :=
  if 8#4 ≤ hiNib b0 ∧ hiNib b0 ≤ 14#4 then .channelVoice
  else if hiNib b0 = 15#4 then .system
  else .notStatus

/-- The channel-voice kind of a status nibble; `none` is the failure `UnknownStatus` (R111). -/
def classifyChannelVoice (n : Nib) : Option CVKind :=
  match n.toNat with
  | 8 => some .noteOff
  | 9 => some .noteOn
  | 10 => some .polyphonicAftertouch
  | 11 => some .controllerChange
  | 12 => some .programChange
  | 13 => some .channelAftertouch
  | 14 => some .pitchWheel
  | _ => none

/-- The system kind of a byte, total: a byte below 0xF0 is `None`, a command byte with no named kind is
`Other` (R112). -/
def classifySystemCommand (t : SysCmdTable) (b : Byte) : SysKind :=
  if hiNib b = 15#4 then
    (namedSysKinds.find? (fun k => t.nibOf k == some (loNib b))).getD SysKind.other
  else SysKind.none

/-- `cmdByte` of R112, the inverse of the table on the named kinds. -/
def cmdByte (t : SysCmdTable) (k : SysKind) : Option Byte :=
  (t.nibOf k).map commandByte

/-- The length of a channel-voice message (R114). -/
def cvLength (c : Config) (k : CVKind) (d1 : U7) : Len :=
  match k with
  | .noteOff => .three
  | .noteOn => .three
  | .polyphonicAftertouch => .three
  | .controllerChange => if d1.toNat < c.ccThreshold ∨ d1 = c.ccLocal then .three else .two
  | .programChange => .two
  | .channelAftertouch => .unknown
  | .pitchWheel => .three

/-- The length of a system command (R115). -/
def sysLength : SysKind → Len
  | .sysEx => .unknown
  | .songPosition => .three
  | .songSelect => .two
  | .tuneRequest => .one
  | .sysExEnd => .one
  | .timingClock => .one
  | .start => .one
  | .cont => .one
  | .stop => .one
  | .activeSensing => .one
  | .systemReset => .one
  | .other => .one
  | .none => .unknown

/-- The kind of the message that starts with `b0`, a sum (R113); `none` when `b0` is no status byte,
the failure `UnknownStatus` of R110. -/
def kindOf (t : SysCmdTable) (b0 : Byte) : Option Kind :=
  match classOf b0 with
  | .channelVoice => (classifyChannelVoice (hiNib b0)).map Kind.cv
  | .system => some (.sys (classifySystemCommand t b0))
  | .notStatus => none

/-- The source's `wireLength` of a kind (R114, R115). -/
def kindLength (c : Config) (k : Kind) (d1 : U7) : Len :=
  match k with
  | .cv k => cvLength c k d1
  | .sys k => sysLength k

/-- `frame`: the length of the message that starts with `b0` and `d1`; `none` is the failure
`UnknownStatus` (R116). -/
def frame (c : Config) (b0 : Byte) (d1 : U7) : Option Len :=
  (kindOf c.sysCmd b0).map (fun k => kindLength c k d1)

/-- The diagnostic classification of a system kind (44_publish R200). `None` is no system command: no
diagnostic: DESIGN CHOICE (safe), log 13. -/
def diagOf : SysKind → Diag
  | .timingClock => .clock
  | .sysEx => .sysEx
  | .sysExEnd => .sysExEnd
  | .systemReset => .systemReset
  | .songPosition => .otherCommand
  | .songSelect => .otherCommand
  | .tuneRequest => .otherCommand
  | .start => .otherCommand
  | .cont => .otherCommand
  | .stop => .otherCommand
  | .activeSensing => .otherCommand
  | .other => .otherCommand
  | .none => .noDiag

end Sys2Proof.Machine
end

