-- ==== Sys2Proof/Machine/Views.lean ====
section
/-! DEFINITION. The views of the event register: pure functions, the block's only loads
(43_accessors R180 to R188, 10_state R27, R38). Every rule of 43_accessors assumes `EVV = 1`: the functions
are total, but what they give for an event with `EVV = 0` is no value of the block, and nothing is claimed
of it (R188, log 6). -/

namespace Sys2Proof.Machine

/-- `channel`: the low nibble of byte 0 for a channel-voice event, 0 otherwise (R180). -/
def channelView (e : Event) : Nib :=
  if 8#4 ≤ hiNib e.raw0 ∧ hiNib e.raw0 ≤ 14#4 then loNib e.raw0 else 0#4

/-- `data1` (R181). -/
def data1View (e : Event) : U7 := e.raw1

/-- `data2` (R182). -/
def data2View (e : Event) : U7 := e.raw2

/-- `combined14`, defined for every event (R183). -/
def combined14View (e : Event) : U14 := combined e.raw1 e.raw2

/-- `length` (R184). -/
def lengthView (e : Event) : Len := lenOf e.lenv e.len

/-- `cvkind`: the code of the channel-voice kind, 0 if the event is none (R185). -/
def cvkView (e : Event) : Nib :=
  if 8#4 ≤ hiNib e.raw0 ∧ hiNib e.raw0 ≤ 14#4 then hiNib e.raw0 else 0#4

/-- `syskind`: the code of the system kind, recomputed from byte 0, 0 if the event is none (R186). -/
def sckView (t : SysCmdTable) (e : Event) : Nib :=
  if hiNib e.raw0 = 15#4 then sysCode (classifySystemCommand t e.raw0) else 0#4

/-- `raw[i]`: the bytes the event would have on the wire, `MemRead(i, 1)` (R187). There is no index 3
(20_memory R68). -/
def rawView (e : Event) (i : Fin 3) : Byte :=
  match i with
  | 0 => e.raw0
  | 1 => dataByte e.raw1
  | 2 => dataByte e.raw2

/-- The bytes of the message on the wire: the first `length` bytes of `raw` (R187, 20_memory R78). When
the length is not known the block gives no count (70 R244), and there is no list of bytes; that not even
the status byte is listed then is the model's choice: DESIGN CHOICE (unsafe as log 15 says). While
`EVV = 0` there is none either (R188, log 6). -/
def wireBytes (e : Event) : Option (List Byte) :=
  if e.evv = true then
    match lengthView e with
    | .unknown => none
    | .one => some [rawView e 0]
    | .two => some [rawView e 0, rawView e 1]
    | .three => some [rawView e 0, rawView e 1, rawView e 2]
  else none

/-- The event view ports other than `EVV` (10_state R38). -/
structure PortImage where
  raw0 : Byte
  raw1 : U7
  raw2 : U7
  lenv : Bool
  len : BitVec 2
  channel : Nib
  combined14 : U14
  cvk : Nib
  sck : Nib
deriving DecidableEq, Repr

/-- The event view ports, a continuous image of `EV`. While `EVV = 0` every view but `EVV` is
unspecified and the model gives it no value (R188): DESIGN CHOICE (safe), log 6. -/
def portImage (s : State) : Option PortImage :=
  if s.ev.evv = true then
    some
      { raw0 := s.ev.raw0
        raw1 := data1View s.ev
        raw2 := data2View s.ev
        lenv := s.ev.lenv
        len := s.ev.len
        channel := channelView s.ev
        combined14 := combined14View s.ev
        cvk := cvkView s.ev
        sck := sckView s.cfg.sysCmd s.ev }
  else none

end Sys2Proof.Machine
end

