-- ==== Sys2Proof/Machine/Ops.lean ====
section
/-! DEFINITION. The named operations every meaning is made of: writing the event register, responding,
raising a fault, handing a record to the bus; and the reset input. -/

namespace Sys2Proof.Machine

/-- `EV <- {...}`: the register is written as a whole (10_state R26, 20_memory R66). -/
def writeEv (e : Event) (s : State) : State := { s with ev := e }

/-- `EV.EVV <- 0`, and every other field of `EV` becomes unspecified (41_decode R130, R150): the next
free values: DESIGN CHOICE (unsafe as log 5 says). -/
def dropEvent (s : State) : State :=
  { s with ev := unspecifiedEvent s.free, free := s.free + 1 }

/-- Drives the response record and the bus port for this step (10_state R39, R40). -/
def drive (r : Response) (w : Option BusWire) (s : State) : State :=
  { s with rsp := some r, busPort := w }

/-- `bus_publish`: appends one record to the event-bus history (00_scope R12, 44_publish R202). -/
def busAppend (p : Publication) (s : State) : State := { s with bus := s.bus ++ [p] }

/-- Takes the presented command: what is left is what the host presents next (10_state R37). -/
def takeCommand (rest : List Presented) (s : State) : State := { s with cmds := rest }

/-- `respond {...}` of a step that publishes nothing (00_scope R12). -/
def respond (r : Response) (s : State) : Host.Outcome State Fault Refusal :=
  .next (drive r none s)

/-- The response of a faulting step: the code, every other field 0 (60_exceptions R216). -/
def faultResponse (f : Status) : Response where
  status := statusCode f
  cvk := 0#4
  sck := 0#4
  lenv := false
  len := 0#2
  published := false
  diag := 0#3

/-- `raise <Fault>`, the one way a fault is taken (60_exceptions R215, R216): the fault is the response
of this step, nothing is saved, nothing is published, and the next step is an ordinary one (R222). What
a fault does to `EV` is done before by the operation that raises it. -/
def raise (f : Status) (s : State) : Host.Outcome State Fault Refusal :=
  respond (faultResponse f) s

/-- A response with STATUS = OK that neither publishes nor gives a diagnostic: the kind codes and the
length of the result (10_state R40). -/
def okResponse (cvk sck : Nib) (l : Len) : Response where
  status := statusCode .ok
  cvk := cvk
  sck := sck
  lenv := lenKnown l
  len := lenBits l
  published := false
  diag := diagCode .noDiag

/-- The event of byte 0 `r0`, two data operands and a length: valid, the operands masked to 7 bits
(41_decode R130, 42_encode R160, R161). -/
def builtEvent (r0 b1 b2 : Byte) (l : Len) : Event where
  evv := true
  raw0 := r0
  raw1 := data7 b1
  raw2 := data7 b2
  lenv := lenKnown l
  len := lenBits l

/-- The source's `decodeFromBytes(b0, b1, b2)` (41_decode R130). -/
def decodeFromBytes (b0 b1 b2 : Byte) (s : State) : Host.Outcome State Fault Refusal :=
  match kindOf s.cfg.sysCmd b0 with
  | none => raise .unknownStatus (dropEvent s)
  | some k =>
    let l := kindLength s.cfg k (data7 b1)
    let e := builtEvent b0 b1 b2 l
    respond (okResponse (cvkView e) (sckView s.cfg.sysCmd e) l) (writeEv e s)

/-- The source's `encodeFromFields` with a channel-voice kind, named by its nibble (42_encode R160).
A nibble that names no kind is an illegal command and `EV` stays (30_encoding R96). -/
def encodeChannelVoice (k : Nib) (channel b1 b2 : Byte) (s : State) :
    Host.Outcome State Fault Refusal :=
  match classifyChannelVoice k with
  | none => raise .illegalCommand s
  | some kind =>
    let l := cvLength s.cfg kind (data7 b1)
    respond (okResponse k 0#4 l) (writeEv (builtEvent (statusByte k channel) b1 b2 l) s)

/-- The source's `encodeFromFields` with a system kind, named by the low nibble of its command byte
(42_encode R161). It never fails. -/
def encodeSystem (k : Nib) (b1 b2 : Byte) (s : State) : Host.Outcome State Fault Refusal :=
  let kind := classifySystemCommand s.cfg.sysCmd (commandByte k)
  let l := sysLength kind
  respond (okResponse 0#4 (sysCode kind) l) (writeEv (builtEvent (commandByte k) b1 b2 l) s)

/-- The reset input (70 R240, 10_state R46 to R48): `EVV` clear, the rest of `EV` unspecified, nothing
published, no response, the constants untouched. No step applies it: DESIGN CHOICE (unsafe for a
run with a reset in the middle), log 10. -/
def applyReset (s : State) : State :=
  { dropEvent s with rsp := none, busPort := none, bus := [] }

end Sys2Proof.Machine
end

