-- ==== Sys2Proof/Machine/Codec.lean ====
section
/-! DEFINITION. The constructors of an event: DEC, ENCV, ENCS (41_decode R130, 42_encode R160, R161),
and the pseudo-operations, each one ENCV (42_encode R168 to R171). -/

namespace Sys2Proof.Machine

/-- `DEC b0, b1, b2` (R130). -/
def execDec (b0 b1 b2 : Byte) (s : State) : Host.Outcome State Fault Refusal :=
  decodeFromBytes b0 b1 b2 s

/-- `ENCV kind, channel, byte1, byte2` (R160). -/
def execEncv (k : Nib) (channel byte1 byte2 : Byte) (s : State) : Host.Outcome State Fault Refusal :=
  encodeChannelVoice k channel byte1 byte2 s

/-- `ENCS cmd, byte1, byte2` (R161). -/
def execEncs (k : Nib) (byte1 byte2 : Byte) (s : State) : Host.Outcome State Fault Refusal :=
  encodeSystem k byte1 byte2 s

/-- `NOTEON note, velocity, channel` is `ENCV NoteOn, channel, note, velocity` (R168). -/
def execBuildNoteOn (note velocity channel : Byte) (s : State) : Host.Outcome State Fault Refusal :=
  encodeChannelVoice 9#4 channel note velocity s

/-- `NOTEOFF note, velocity, channel` is `ENCV NoteOff, channel, note, velocity` (R169). -/
def execBuildNoteOff (note velocity channel : Byte) (s : State) :
    Host.Outcome State Fault Refusal :=
  encodeChannelVoice 8#4 channel note velocity s

/-- `PROGCH program, channel` is `ENCV ProgramChange, channel, program, 0` (R170). -/
def execBuildProgramChange (program channel : Byte) (s : State) :
    Host.Outcome State Fault Refusal :=
  encodeChannelVoice 12#4 channel program 0#8 s

/-- `CTRLCH control, value, channel` is `ENCV ControllerChange, channel, control, value` (R171). -/
def execBuildControllerChange (control value channel : Byte) (s : State) :
    Host.Outcome State Fault Refusal :=
  encodeChannelVoice 11#4 channel control value s

end Sys2Proof.Machine
end

