-- ==== Sys2Proof/Machine/Illegal.lean ====
section
/-! DEFINITION. The words that select no operation or name no kind: each raises `IllegalCommand`, `EV`
and the bus stay (30_encoding R95, R96, 60_exceptions R211). -/

namespace Sys2Proof.Machine

/-- `OP` = 0, reserved (R95). -/
def execReservedOp0 (s : State) : Host.Outcome State Fault Refusal := raise .illegalCommand s

/-- `OP` = 8, reserved (R95). -/
def execReservedOp8 (s : State) : Host.Outcome State Fault Refusal := raise .illegalCommand s

/-- `OP` = 9, reserved (R95). -/
def execReservedOp9 (s : State) : Host.Outcome State Fault Refusal := raise .illegalCommand s

/-- `OP` = 10, reserved (R95). -/
def execReservedOp10 (s : State) : Host.Outcome State Fault Refusal := raise .illegalCommand s

/-- `OP` = 11, reserved (R95). -/
def execReservedOp11 (s : State) : Host.Outcome State Fault Refusal := raise .illegalCommand s

/-- `OP` = 12, reserved (R95). -/
def execReservedOp12 (s : State) : Host.Outcome State Fault Refusal := raise .illegalCommand s

/-- `OP` = 13, reserved (R95). -/
def execReservedOp13 (s : State) : Host.Outcome State Fault Refusal := raise .illegalCommand s

/-- `OP` = 14, reserved (R95). -/
def execReservedOp14 (s : State) : Host.Outcome State Fault Refusal := raise .illegalCommand s

/-- `OP` = 15, reserved (R95). -/
def execReservedOp15 (s : State) : Host.Outcome State Fault Refusal := raise .illegalCommand s

/-- ENCV with `K` = 0, which names no channel-voice kind (R96). -/
def execEncvIllegalK0 (s : State) : Host.Outcome State Fault Refusal := raise .illegalCommand s

/-- ENCV with `K` = 1, which names no channel-voice kind (R96). -/
def execEncvIllegalK1 (s : State) : Host.Outcome State Fault Refusal := raise .illegalCommand s

/-- ENCV with `K` = 2, which names no channel-voice kind (R96). -/
def execEncvIllegalK2 (s : State) : Host.Outcome State Fault Refusal := raise .illegalCommand s

/-- ENCV with `K` = 3, which names no channel-voice kind (R96). -/
def execEncvIllegalK3 (s : State) : Host.Outcome State Fault Refusal := raise .illegalCommand s

/-- ENCV with `K` = 4, which names no channel-voice kind (R96). -/
def execEncvIllegalK4 (s : State) : Host.Outcome State Fault Refusal := raise .illegalCommand s

/-- ENCV with `K` = 5, which names no channel-voice kind (R96). -/
def execEncvIllegalK5 (s : State) : Host.Outcome State Fault Refusal := raise .illegalCommand s

/-- ENCV with `K` = 6, which names no channel-voice kind (R96). -/
def execEncvIllegalK6 (s : State) : Host.Outcome State Fault Refusal := raise .illegalCommand s

/-- ENCV with `K` = 7, which names no channel-voice kind (R96). -/
def execEncvIllegalK7 (s : State) : Host.Outcome State Fault Refusal := raise .illegalCommand s

/-- ENCV with `K` = 15, which names no channel-voice kind (R96). -/
def execEncvIllegalK15 (s : State) : Host.Outcome State Fault Refusal := raise .illegalCommand s

end Sys2Proof.Machine
end

