-- ==== Sys2Proof/Machine/Messages.lean ====
section
/-! DEFINITION. MIDI messages, one meaning per row of the space `midi_byte0`: each is `decodeFromBytes`
of its byte 0 and the two further bytes (41_decode R131 to R150). -/

namespace Sys2Proof.Machine

/-- NoteOff, byte 0 = 0x80 to 0x8F (R131). -/
def execNoteOff (ch : Nib) (b1 b2 : Byte) (s : State) : Host.Outcome State Fault Refusal :=
  decodeFromBytes (nibbles 8#4 ch) b1 b2 s

/-- NoteOn, byte 0 = 0x90 to 0x9F (R132). -/
def execNoteOn (ch : Nib) (b1 b2 : Byte) (s : State) : Host.Outcome State Fault Refusal :=
  decodeFromBytes (nibbles 9#4 ch) b1 b2 s

/-- PolyphonicAftertouch, byte 0 = 0xA0 to 0xAF (R133). -/
def execPolyphonicAftertouch (ch : Nib) (b1 b2 : Byte) (s : State) :
    Host.Outcome State Fault Refusal :=
  decodeFromBytes (nibbles 10#4 ch) b1 b2 s

/-- ControllerChange, byte 0 = 0xB0 to 0xBF (R134). -/
def execControllerChange (ch : Nib) (b1 b2 : Byte) (s : State) :
    Host.Outcome State Fault Refusal :=
  decodeFromBytes (nibbles 11#4 ch) b1 b2 s

/-- ProgramChange, byte 0 = 0xC0 to 0xCF (R135). -/
def execProgramChange (ch : Nib) (b1 b2 : Byte) (s : State) : Host.Outcome State Fault Refusal :=
  decodeFromBytes (nibbles 12#4 ch) b1 b2 s

/-- ChannelAftertouch, byte 0 = 0xD0 to 0xDF (R136). -/
def execChannelAftertouch (ch : Nib) (b1 b2 : Byte) (s : State) :
    Host.Outcome State Fault Refusal :=
  decodeFromBytes (nibbles 13#4 ch) b1 b2 s

/-- PitchWheel, byte 0 = 0xE0 to 0xEF (R137). -/
def execPitchWheel (ch : Nib) (b1 b2 : Byte) (s : State) : Host.Outcome State Fault Refusal :=
  decodeFromBytes (nibbles 14#4 ch) b1 b2 s

/-- SysEx, byte 0 = 0xF0 (R138). -/
def execSysEx (b1 b2 : Byte) (s : State) : Host.Outcome State Fault Refusal :=
  decodeFromBytes 0xF0#8 b1 b2 s

/-- Other, byte 0 = 0xF1 (R149). -/
def execOtherF1 (b1 b2 : Byte) (s : State) : Host.Outcome State Fault Refusal :=
  decodeFromBytes 0xF1#8 b1 b2 s

/-- SongPosition, byte 0 = 0xF2 (R139). -/
def execSongPosition (b1 b2 : Byte) (s : State) : Host.Outcome State Fault Refusal :=
  decodeFromBytes 0xF2#8 b1 b2 s

/-- SongSelect, byte 0 = 0xF3 (R140). -/
def execSongSelect (b1 b2 : Byte) (s : State) : Host.Outcome State Fault Refusal :=
  decodeFromBytes 0xF3#8 b1 b2 s

/-- Other, byte 0 = 0xF4 (R149). -/
def execOtherF4 (b1 b2 : Byte) (s : State) : Host.Outcome State Fault Refusal :=
  decodeFromBytes 0xF4#8 b1 b2 s

/-- Other, byte 0 = 0xF5 (R149). -/
def execOtherF5 (b1 b2 : Byte) (s : State) : Host.Outcome State Fault Refusal :=
  decodeFromBytes 0xF5#8 b1 b2 s

/-- TuneRequest, byte 0 = 0xF6 (R141). -/
def execTuneRequest (b1 b2 : Byte) (s : State) : Host.Outcome State Fault Refusal :=
  decodeFromBytes 0xF6#8 b1 b2 s

/-- SysExEnd, byte 0 = 0xF7 (R142). -/
def execSysExEnd (b1 b2 : Byte) (s : State) : Host.Outcome State Fault Refusal :=
  decodeFromBytes 0xF7#8 b1 b2 s

/-- TimingClock, byte 0 = 0xF8 (R143). -/
def execTimingClock (b1 b2 : Byte) (s : State) : Host.Outcome State Fault Refusal :=
  decodeFromBytes 0xF8#8 b1 b2 s

/-- Other, byte 0 = 0xF9 (R149). -/
def execOtherF9 (b1 b2 : Byte) (s : State) : Host.Outcome State Fault Refusal :=
  decodeFromBytes 0xF9#8 b1 b2 s

/-- Start, byte 0 = 0xFA (R144). -/
def execStartMsg (b1 b2 : Byte) (s : State) : Host.Outcome State Fault Refusal :=
  decodeFromBytes 0xFA#8 b1 b2 s

/-- Continue, byte 0 = 0xFB (R145). -/
def execContinueMsg (b1 b2 : Byte) (s : State) : Host.Outcome State Fault Refusal :=
  decodeFromBytes 0xFB#8 b1 b2 s

/-- Stop, byte 0 = 0xFC (R146). -/
def execStopMsg (b1 b2 : Byte) (s : State) : Host.Outcome State Fault Refusal :=
  decodeFromBytes 0xFC#8 b1 b2 s

/-- Other, byte 0 = 0xFD (R149). -/
def execOtherFD (b1 b2 : Byte) (s : State) : Host.Outcome State Fault Refusal :=
  decodeFromBytes 0xFD#8 b1 b2 s

/-- ActiveSensing, byte 0 = 0xFE (R147). -/
def execActiveSensing (b1 b2 : Byte) (s : State) : Host.Outcome State Fault Refusal :=
  decodeFromBytes 0xFE#8 b1 b2 s

/-- SystemReset, byte 0 = 0xFF: a message that is only classified, no reset of the block (R148). -/
def execSystemReset (b1 b2 : Byte) (s : State) : Host.Outcome State Fault Refusal :=
  decodeFromBytes 0xFF#8 b1 b2 s

/-- A byte 0 with bit 7 clear: `UnknownStatus`, and the event is gone (R150). -/
def execNotStatus (low : U7) (b1 b2 : Byte) (s : State) : Host.Outcome State Fault Refusal :=
  decodeFromBytes (nonStatusByte low) b1 b2 s

end Sys2Proof.Machine
end

