-- ==== Sys2Proof/Machine/Publish.lean ====
section
/-! DEFINITION. PUB: the notification payload and the hand-off to the event bus (44_publish). -/

namespace Sys2Proof.Machine

/-- The mapping of an event of a channel-voice kind (R191 to R197). It does not look at the length
(90_conflicts C12). -/
def mappingOf (k : CVKind) (e : Event) : List (FieldName × Nat) :=
  match k with
  | .noteOff =>
    [(.note, (data1View e).toNat), (.velocity, (data2View e).toNat), (.channel, (channelView e).toNat)]
  | .noteOn =>
    [(.note, (data1View e).toNat), (.velocity, (data2View e).toNat), (.channel, (channelView e).toNat)]
  | .polyphonicAftertouch =>
    [(.note, (data1View e).toNat), (.pressure, (data2View e).toNat), (.channel, (channelView e).toNat)]
  | .controllerChange =>
    [(.control, (data1View e).toNat), (.value, (data2View e).toNat), (.channel, (channelView e).toNat)]
  | .programChange =>
    [(.program, (data1View e).toNat), (.channel, (channelView e).toNat)]
  | .channelAftertouch =>
    [(.pressure, (data1View e).toNat), (.channel, (channelView e).toNat)]
  | .pitchWheel =>
    [(.pitchWheel, (combined14View e).toNat), (.channel, (channelView e).toNat)]

/-- The record on the wires of the bus port (R204). -/
def wireOf (k : CVKind) (e : Event) : BusWire :=
  match k with
  | .noteOff => ⟨cvCode .noteOff, (data1View e).setWidth 14, data2View e, true, channelView e⟩
  | .noteOn => ⟨cvCode .noteOn, (data1View e).setWidth 14, data2View e, true, channelView e⟩
  | .polyphonicAftertouch =>
    ⟨cvCode .polyphonicAftertouch, (data1View e).setWidth 14, data2View e, true, channelView e⟩
  | .controllerChange =>
    ⟨cvCode .controllerChange, (data1View e).setWidth 14, data2View e, true, channelView e⟩
  | .programChange =>
    ⟨cvCode .programChange, (data1View e).setWidth 14, 0#7, false, channelView e⟩
  | .channelAftertouch =>
    ⟨cvCode .channelAftertouch, (data1View e).setWidth 14, 0#7, false, channelView e⟩
  | .pitchWheel => ⟨cvCode .pitchWheel, combined14View e, 0#7, false, channelView e⟩

/-- The response of a PUB that published the event `e` (R190). -/
def publishedResponse (e : Event) : Response where
  status := statusCode .ok
  cvk := cvkView e
  sck := 0#4
  lenv := e.lenv
  len := e.len
  published := true
  diag := diagCode .noDiag

/-- The response of a PUB on a system command: nothing published, the diagnostic (R190, R198, R200). -/
def diagnosticResponse (t : SysCmdTable) (e : Event) : Response where
  status := statusCode .ok
  cvk := 0#4
  sck := sckView t e
  lenv := e.lenv
  len := e.len
  published := false
  diag := diagCode (diagOf (classifySystemCommand t e.raw0))

/-- `PUB` (R190): the source's `toNotificationPayload`. `EV` is not written (R205). -/
def execPub (s : State) : Host.Outcome State Fault Refusal :=
  if s.ev.evv = true then
    match classifyChannelVoice (hiNib s.ev.raw0) with
    | some k =>
      .next (drive (publishedResponse s.ev) (some (wireOf k s.ev))
        (busAppend ⟨k, mappingOf k s.ev⟩ s))
    | none => respond (diagnosticResponse s.cfg.sysCmd s.ev) s
  else raise .noEvent s

end Sys2Proof.Machine
end

