-- ==== Sys2Proof/Machine/Query.lean ====
section
/-! DEFINITION. The table queries CLSV, CLSS, FRM (40_classification R118 to R120). They write no
state. -/

namespace Sys2Proof.Machine

/-- `CLSV n` (R118): the response carries no length. -/
def execClsv (n : Nib) (s : State) : Host.Outcome State Fault Refusal :=
  match classifyChannelVoice n with
  | some _ => respond (okResponse n 0#4 .unknown) s
  | none => raise .unknownStatus s

/-- `CLSS b` (R119): never fails. -/
def execClss (b : Byte) (s : State) : Host.Outcome State Fault Refusal :=
  let k := classifySystemCommand s.cfg.sysCmd b
  respond (okResponse 0#4 (sysCode k) (sysLength k)) s

/-- The kind codes of the message that starts with a status byte `st` (R120). -/
def frameCodes (t : SysCmdTable) (st : Byte) : Nib × Nib :=
  if classOf st = .channelVoice then (hiNib st, 0#4)
  else (0#4, sysCode (classifySystemCommand t st))

/-- `FRM st, d` (R120): `d` is masked before the comparison. -/
def execFrm (st d : Byte) (s : State) : Host.Outcome State Fault Refusal :=
  match frame s.cfg st (data7 d) with
  | none => raise .unknownStatus s
  | some l =>
    respond (okResponse (frameCodes s.cfg.sysCmd st).1 (frameCodes s.cfg.sysCmd st).2 l) s

end Sys2Proof.Machine
end

