-- ==== Sys2Proof/Machine/Dispatch.lean ====
section
/-! DEFINITION. One arm per instruction. -/

namespace Sys2Proof.Machine

def exec (i : Instr) (s : State) : Host.Outcome State Fault Refusal :=
  match i with
  | .noteOff ch b1 b2 => Sys2Proof.Machine.execNoteOff ch b1 b2 s
  | .noteOn ch b1 b2 => Sys2Proof.Machine.execNoteOn ch b1 b2 s
  | .polyphonicAftertouch ch b1 b2 => Sys2Proof.Machine.execPolyphonicAftertouch ch b1 b2 s
  | .controllerChange ch b1 b2 => Sys2Proof.Machine.execControllerChange ch b1 b2 s
  | .programChange ch b1 b2 => Sys2Proof.Machine.execProgramChange ch b1 b2 s
  | .channelAftertouch ch b1 b2 => Sys2Proof.Machine.execChannelAftertouch ch b1 b2 s
  | .pitchWheel ch b1 b2 => Sys2Proof.Machine.execPitchWheel ch b1 b2 s
  | .sysEx b1 b2 => Sys2Proof.Machine.execSysEx b1 b2 s
  | .otherF1 b1 b2 => Sys2Proof.Machine.execOtherF1 b1 b2 s
  | .songPosition b1 b2 => Sys2Proof.Machine.execSongPosition b1 b2 s
  | .songSelect b1 b2 => Sys2Proof.Machine.execSongSelect b1 b2 s
  | .otherF4 b1 b2 => Sys2Proof.Machine.execOtherF4 b1 b2 s
  | .otherF5 b1 b2 => Sys2Proof.Machine.execOtherF5 b1 b2 s
  | .tuneRequest b1 b2 => Sys2Proof.Machine.execTuneRequest b1 b2 s
  | .sysExEnd b1 b2 => Sys2Proof.Machine.execSysExEnd b1 b2 s
  | .timingClock b1 b2 => Sys2Proof.Machine.execTimingClock b1 b2 s
  | .otherF9 b1 b2 => Sys2Proof.Machine.execOtherF9 b1 b2 s
  | .startMsg b1 b2 => Sys2Proof.Machine.execStartMsg b1 b2 s
  | .continueMsg b1 b2 => Sys2Proof.Machine.execContinueMsg b1 b2 s
  | .stopMsg b1 b2 => Sys2Proof.Machine.execStopMsg b1 b2 s
  | .otherFD b1 b2 => Sys2Proof.Machine.execOtherFD b1 b2 s
  | .activeSensing b1 b2 => Sys2Proof.Machine.execActiveSensing b1 b2 s
  | .systemReset b1 b2 => Sys2Proof.Machine.execSystemReset b1 b2 s
  | .notStatus low b1 b2 => Sys2Proof.Machine.execNotStatus low b1 b2 s
  | .dec b0 b1 b2 => Sys2Proof.Machine.execDec b0 b1 b2 s
  | .encv k channel byte1 byte2 => Sys2Proof.Machine.execEncv k channel byte1 byte2 s
  | .encs k byte1 byte2 => Sys2Proof.Machine.execEncs k byte1 byte2 s
  | .pub => Sys2Proof.Machine.execPub s
  | .clsv n => Sys2Proof.Machine.execClsv n s
  | .clss b => Sys2Proof.Machine.execClss b s
  | .frm st d => Sys2Proof.Machine.execFrm st d s
  | .reservedOp0 => Sys2Proof.Machine.execReservedOp0 s
  | .reservedOp8 => Sys2Proof.Machine.execReservedOp8 s
  | .reservedOp9 => Sys2Proof.Machine.execReservedOp9 s
  | .reservedOp10 => Sys2Proof.Machine.execReservedOp10 s
  | .reservedOp11 => Sys2Proof.Machine.execReservedOp11 s
  | .reservedOp12 => Sys2Proof.Machine.execReservedOp12 s
  | .reservedOp13 => Sys2Proof.Machine.execReservedOp13 s
  | .reservedOp14 => Sys2Proof.Machine.execReservedOp14 s
  | .reservedOp15 => Sys2Proof.Machine.execReservedOp15 s
  | .encvIllegalK0 => Sys2Proof.Machine.execEncvIllegalK0 s
  | .encvIllegalK1 => Sys2Proof.Machine.execEncvIllegalK1 s
  | .encvIllegalK2 => Sys2Proof.Machine.execEncvIllegalK2 s
  | .encvIllegalK3 => Sys2Proof.Machine.execEncvIllegalK3 s
  | .encvIllegalK4 => Sys2Proof.Machine.execEncvIllegalK4 s
  | .encvIllegalK5 => Sys2Proof.Machine.execEncvIllegalK5 s
  | .encvIllegalK6 => Sys2Proof.Machine.execEncvIllegalK6 s
  | .encvIllegalK7 => Sys2Proof.Machine.execEncvIllegalK7 s
  | .encvIllegalK15 => Sys2Proof.Machine.execEncvIllegalK15 s
  | .buildNoteOn note velocity channel => Sys2Proof.Machine.execBuildNoteOn note velocity channel s
  | .buildNoteOff note velocity channel => Sys2Proof.Machine.execBuildNoteOff note velocity channel s
  | .buildProgramChange program channel => Sys2Proof.Machine.execBuildProgramChange program channel s
  | .buildControllerChange control value channel => Sys2Proof.Machine.execBuildControllerChange control value channel s

end Sys2Proof.Machine
end

