-- ==== Sys2Proof/Machine/Step.lean ====
section
/-! DEFINITION. One step: the block takes what the host presents, decodes it and runs it
(10_state R37, R49). -/

namespace Sys2Proof.Machine

/-- One step. With nothing presented there is no step to take: the run has ended (70 R254): DESIGN CHOICE (safe), log 3. -/
def step (s : State) : Host.Outcome State Fault Refusal :=
  match s.cmds with
  | [] => .fault .noCommand
  | p :: rest => exec (decode p) (takeCommand rest s)

/-- `s` with the given word of the opcode table presented as its next command: DESIGN CHOICE
(safe), log 4. -/
def State.withFetchWord (s : State) (nbits w : Nat) : State :=
  { s with cmds := tablePresented nbits w :: s.cmds.tail }

end Sys2Proof.Machine
end

