-- ==== Sys2Proof/Laws/State.lean ====
section
/-! SUPPORT. One lemma per field per state update, so that no later proof unfolds an update. -/

namespace Sys2Proof.Machine

@[simp] theorem writeEv_cfg (e : Event) (s : State) :
    (writeEv e s).cfg = s.cfg := rfl
@[simp] theorem writeEv_ev (e : Event) (s : State) :
    (writeEv e s).ev = e := rfl
@[simp] theorem writeEv_cmds (e : Event) (s : State) :
    (writeEv e s).cmds = s.cmds := rfl
@[simp] theorem writeEv_rsp (e : Event) (s : State) :
    (writeEv e s).rsp = s.rsp := rfl
@[simp] theorem writeEv_busPort (e : Event) (s : State) :
    (writeEv e s).busPort = s.busPort := rfl
@[simp] theorem writeEv_bus (e : Event) (s : State) :
    (writeEv e s).bus = s.bus := rfl
@[simp] theorem writeEv_free (e : Event) (s : State) :
    (writeEv e s).free = s.free := rfl

@[simp] theorem dropEvent_cfg (s : State) :
    (dropEvent s).cfg = s.cfg := rfl
@[simp] theorem dropEvent_ev (s : State) :
    (dropEvent s).ev = unspecifiedEvent s.free := rfl
@[simp] theorem dropEvent_cmds (s : State) :
    (dropEvent s).cmds = s.cmds := rfl
@[simp] theorem dropEvent_rsp (s : State) :
    (dropEvent s).rsp = s.rsp := rfl
@[simp] theorem dropEvent_busPort (s : State) :
    (dropEvent s).busPort = s.busPort := rfl
@[simp] theorem dropEvent_bus (s : State) :
    (dropEvent s).bus = s.bus := rfl
@[simp] theorem dropEvent_free (s : State) :
    (dropEvent s).free = s.free + 1 := rfl

@[simp] theorem drive_cfg (r : Response) (w : Option BusWire) (s : State) :
    (drive r w s).cfg = s.cfg := rfl
@[simp] theorem drive_ev (r : Response) (w : Option BusWire) (s : State) :
    (drive r w s).ev = s.ev := rfl
@[simp] theorem drive_cmds (r : Response) (w : Option BusWire) (s : State) :
    (drive r w s).cmds = s.cmds := rfl
@[simp] theorem drive_rsp (r : Response) (w : Option BusWire) (s : State) :
    (drive r w s).rsp = some r := rfl
@[simp] theorem drive_busPort (r : Response) (w : Option BusWire) (s : State) :
    (drive r w s).busPort = w := rfl
@[simp] theorem drive_bus (r : Response) (w : Option BusWire) (s : State) :
    (drive r w s).bus = s.bus := rfl
@[simp] theorem drive_free (r : Response) (w : Option BusWire) (s : State) :
    (drive r w s).free = s.free := rfl

@[simp] theorem busAppend_cfg (p : Publication) (s : State) :
    (busAppend p s).cfg = s.cfg := rfl
@[simp] theorem busAppend_ev (p : Publication) (s : State) :
    (busAppend p s).ev = s.ev := rfl
@[simp] theorem busAppend_cmds (p : Publication) (s : State) :
    (busAppend p s).cmds = s.cmds := rfl
@[simp] theorem busAppend_rsp (p : Publication) (s : State) :
    (busAppend p s).rsp = s.rsp := rfl
@[simp] theorem busAppend_busPort (p : Publication) (s : State) :
    (busAppend p s).busPort = s.busPort := rfl
@[simp] theorem busAppend_bus (p : Publication) (s : State) :
    (busAppend p s).bus = s.bus ++ [p] := rfl
@[simp] theorem busAppend_free (p : Publication) (s : State) :
    (busAppend p s).free = s.free := rfl

@[simp] theorem takeCommand_cfg (rest : List Presented) (s : State) :
    (takeCommand rest s).cfg = s.cfg := rfl
@[simp] theorem takeCommand_ev (rest : List Presented) (s : State) :
    (takeCommand rest s).ev = s.ev := rfl
@[simp] theorem takeCommand_cmds (rest : List Presented) (s : State) :
    (takeCommand rest s).cmds = rest := rfl
@[simp] theorem takeCommand_rsp (rest : List Presented) (s : State) :
    (takeCommand rest s).rsp = s.rsp := rfl
@[simp] theorem takeCommand_busPort (rest : List Presented) (s : State) :
    (takeCommand rest s).busPort = s.busPort := rfl
@[simp] theorem takeCommand_bus (rest : List Presented) (s : State) :
    (takeCommand rest s).bus = s.bus := rfl
@[simp] theorem takeCommand_free (rest : List Presented) (s : State) :
    (takeCommand rest s).free = s.free := rfl

@[simp] theorem unspecifiedEvent_evv (n : Nat) : (unspecifiedEvent n).evv = false := rfl

@[simp] theorem builtEvent_evv (r0 b1 b2 : Byte) (l : Len) : (builtEvent r0 b1 b2 l).evv = true := rfl
@[simp] theorem builtEvent_raw0 (r0 b1 b2 : Byte) (l : Len) : (builtEvent r0 b1 b2 l).raw0 = r0 := rfl
@[simp] theorem builtEvent_raw1 (r0 b1 b2 : Byte) (l : Len) :
    (builtEvent r0 b1 b2 l).raw1 = data7 b1 := rfl
@[simp] theorem builtEvent_raw2 (r0 b1 b2 : Byte) (l : Len) :
    (builtEvent r0 b1 b2 l).raw2 = data7 b2 := rfl
@[simp] theorem builtEvent_lenv (r0 b1 b2 : Byte) (l : Len) :
    (builtEvent r0 b1 b2 l).lenv = lenKnown l := rfl
@[simp] theorem builtEvent_len (r0 b1 b2 : Byte) (l : Len) :
    (builtEvent r0 b1 b2 l).len = lenBits l := rfl

end Sys2Proof.Machine
end

