-- ==== Sys2Proof/Laws/Operands.lean ====
section
/-! SUPPORT. The laws of the bit-field arithmetic: what is assembled is read back. -/

namespace Sys2Proof.Machine

@[simp] theorem hiNib_nibbles (h l : Nib) : hiNib (nibbles h l) = h := by
  revert h l; decide

@[simp] theorem loNib_nibbles (h l : Nib) : loNib (nibbles h l) = l := by
  revert h l; decide

theorem nibbles_hiNib_loNib (b : Byte) : nibbles (hiNib b) (loNib b) = b := by
  revert b; decide

theorem statusByte_eq_nibbles (k : Nib) (c : Byte) : statusByte k c = nibbles k (loNib c) := by
  unfold statusByte nibbles loNib
  congr 1
  revert c; decide

theorem commandByte_eq_nibbles (k : Nib) : commandByte k = nibbles 15#4 k := by
  revert k; decide

@[simp] theorem data7_dataByte (v : U7) : data7 (dataByte v) = v := by
  revert v; decide

theorem dataByte_data7 (b : Byte) : dataByte (data7 b) = b &&& 0x7F#8 := by
  revert b; decide

@[simp] theorem data7_nonStatusByte (v : U7) : data7 (nonStatusByte v) = v := by
  revert v; decide

theorem hiNib_nonStatusByte_lt (v : U7) : (hiNib (nonStatusByte v)).toNat < 8 := by
  revert v; decide

theorem nonStatusByte_data7 (b : Byte) (h : (hiNib b).toNat < 8) : nonStatusByte (data7 b) = b := by
  revert b; decide

/-- Bit 7 of a byte says whether its high nibble is 8 or more. -/
theorem bit7_iff_hiNib (b : Byte) : b.getLsbD 7 = true ↔ 8 ≤ (hiNib b).toNat := by
  revert b; decide

theorem combined_toNat (d1 d2 : U7) : (combined d1 d2).toNat = d1.toNat + 128 * d2.toNat := by
  unfold combined
  have := d1.isLt
  have := d2.isLt
  simp [BitVec.toNat_add, Nat.shiftLeft_eq]
  omega

@[simp] theorem opField_commandWord (op k : Nib) (x0 x1 x2 : Byte) :
    opField (commandWord op k x0 x1 x2) = op := by
  unfold opField commandWord
  ext i hi
  rcases i with _ | _ | _ | _ | i <;> first | omega | simp

@[simp] theorem kField_commandWord (op k : Nib) (x0 x1 x2 : Byte) :
    kField (commandWord op k x0 x1 x2) = k := by
  unfold kField commandWord
  ext i hi
  rcases i with _ | _ | _ | _ | i <;> first | omega | simp

@[simp] theorem x0Field_commandWord (op k : Nib) (x0 x1 x2 : Byte) :
    x0Field (commandWord op k x0 x1 x2) = x0 := by
  unfold x0Field commandWord
  ext i hi
  rcases i with _ | _ | _ | _ | _ | _ | _ | _ | i <;> first | omega | simp

@[simp] theorem x1Field_commandWord (op k : Nib) (x0 x1 x2 : Byte) :
    x1Field (commandWord op k x0 x1 x2) = x1 := by
  unfold x1Field commandWord
  ext i hi
  rcases i with _ | _ | _ | _ | _ | _ | _ | _ | i <;> first | omega | simp

@[simp] theorem x2Field_commandWord (op k : Nib) (x0 x1 x2 : Byte) :
    x2Field (commandWord op k x0 x1 x2) = x2 := by
  unfold x2Field commandWord
  ext i hi
  rcases i with _ | _ | _ | _ | _ | _ | _ | _ | i <;> first | omega | simp

/-- A command word is nothing but its five fields. -/
theorem commandWord_fields (w : Word) :
    commandWord (opField w) (kField w) (x0Field w) (x1Field w) (x2Field w) = w := by
  unfold commandWord opField kField x0Field x1Field x2Field
  apply BitVec.eq_of_getLsbD_eq
  intro i hi
  simp
  interval_cases i <;> simp

end Sys2Proof.Machine
end

