-- ==== Sys2Proof/Laws/Tables.lean ====
section
/-! SUPPORT. What the tables answer, said once. -/

namespace Sys2Proof.Machine

/-- The dispatcher by the number of the high nibble. -/
theorem classOf_eq (b0 : Byte) :
    classOf b0 = if (hiNib b0).toNat < 8 then .notStatus
      else if (hiNib b0).toNat = 15 then .system else .channelVoice := by
  revert b0; decide

/-- The channel-voice table answers exactly on 8 to 14. -/
theorem classifyChannelVoice_isSome (n : Nib) :
    (classifyChannelVoice n).isSome = true ↔ 8#4 ≤ n ∧ n ≤ 14#4 := by
  revert n; decide

/-- The code of the kind of a nibble is the nibble. -/
theorem cvCode_of_classify {n : Nib} {k : CVKind} (h : classifyChannelVoice n = some k) :
    cvCode k = n := by
  revert n k; decide +revert

@[simp] theorem classify_cvCode (k : CVKind) : classifyChannelVoice (cvCode k) = some k := by
  cases k <;> rfl

/-- A status byte of a channel-voice kind has that kind. -/
theorem kindOf_nibbles_cv (t : SysCmdTable) {n : Nib} {k : CVKind} (c : Nib)
    (h : classifyChannelVoice n = some k) : kindOf t (nibbles n c) = some (.cv k) := by
  have hn := (classifyChannelVoice_isSome n).1 (by simp [h])
  simp [kindOf, classOf, hn, h]

/-- A command byte has the kind the system table gives it. -/
theorem kindOf_nibbles_sys (t : SysCmdTable) (c : Nib) :
    kindOf t (nibbles 15#4 c) = some (.sys (classifySystemCommand t (nibbles 15#4 c))) := by
  simp [kindOf, classOf]

/-- A byte with bit 7 clear has no kind, every other byte has one. -/
theorem kindOf_eq_none_iff (t : SysCmdTable) (b0 : Byte) :
    kindOf t b0 = none ↔ (hiNib b0).toNat < 8 := by
  have h := classifyChannelVoice_isSome (hiNib b0)
  have hlt := (hiNib b0).isLt
  rw [kindOf, classOf_eq]
  split_ifs with h1 h2
  · simp [h1]
  · simp [h1]
  · have hs : (classifyChannelVoice (hiNib b0)).isSome = true :=
      h.2 ⟨by simp [BitVec.le_def]; omega, by simp [BitVec.le_def]; omega⟩
    obtain ⟨k, hk⟩ := Option.isSome_iff_exists.1 hs
    simp [hk, h1]

/-- A command byte never has the kind `None`. -/
theorem classifySystemCommand_ne_none (t : SysCmdTable) {b : Byte} (h : hiNib b = 15#4) :
    classifySystemCommand t b ≠ SysKind.none := by
  unfold classifySystemCommand
  rw [if_pos h]
  intro hc
  cases hf : namedSysKinds.find? (fun k => t.nibOf k == some (loNib b)) with
  | none => simp [hf] at hc
  | some k =>
    have hm := List.mem_of_find?_eq_some hf
    simp [hf] at hc
    subst hc
    simp [namedSysKinds] at hm

end Sys2Proof.Machine
end

