-- ==== Sys2Proof/Laws/Ops.lean ====
section
/-! SUPPORT. What each shared operation answers, said once; the proofs cite these instead of unfolding. -/

namespace Sys2Proof.Machine

theorem respond_eq (r : Response) (s : State) : respond r s = .next (drive r none s) := rfl

theorem raise_eq (f : Status) (s : State) : raise f s = .next (drive (faultResponse f) none s) := rfl

theorem decodeFromBytes_of_none {b0 b1 b2 : Byte} {s : State} (h : kindOf s.cfg.sysCmd b0 = none) :
    decodeFromBytes b0 b1 b2 s =
      .next (drive (faultResponse .unknownStatus) none (dropEvent s)) := by
  simp [decodeFromBytes, h, raise_eq]

theorem decodeFromBytes_of_some {b0 b1 b2 : Byte} {s : State} {k : Kind}
    (h : kindOf s.cfg.sysCmd b0 = some k) :
    decodeFromBytes b0 b1 b2 s =
      .next (drive
        (okResponse (cvkView (builtEvent b0 b1 b2 (kindLength s.cfg k (data7 b1))))
          (sckView s.cfg.sysCmd (builtEvent b0 b1 b2 (kindLength s.cfg k (data7 b1))))
          (kindLength s.cfg k (data7 b1)))
        none (writeEv (builtEvent b0 b1 b2 (kindLength s.cfg k (data7 b1))) s)) := by
  simp [decodeFromBytes, h, respond_eq]

theorem encodeChannelVoice_of_none {k : Nib} {c b1 b2 : Byte} {s : State}
    (h : classifyChannelVoice k = none) :
    encodeChannelVoice k c b1 b2 s = .next (drive (faultResponse .illegalCommand) none s) := by
  simp [encodeChannelVoice, h, raise_eq]

theorem encodeChannelVoice_of_some {k : Nib} {c b1 b2 : Byte} {s : State} {kind : CVKind}
    (h : classifyChannelVoice k = some kind) :
    encodeChannelVoice k c b1 b2 s =
      .next (drive (okResponse k 0#4 (cvLength s.cfg kind (data7 b1))) none
        (writeEv (builtEvent (statusByte k c) b1 b2 (cvLength s.cfg kind (data7 b1))) s)) := by
  simp [encodeChannelVoice, h, respond_eq]

theorem encodeSystem_eq (k : Nib) (b1 b2 : Byte) (s : State) :
    encodeSystem k b1 b2 s =
      .next (drive
        (okResponse 0#4 (sysCode (classifySystemCommand s.cfg.sysCmd (commandByte k)))
          (sysLength (classifySystemCommand s.cfg.sysCmd (commandByte k))))
        none
        (writeEv (builtEvent (commandByte k) b1 b2
          (sysLength (classifySystemCommand s.cfg.sysCmd (commandByte k)))) s)) := rfl

theorem execPub_of_noEvent {s : State} (h : s.ev.evv = false) :
    execPub s = .next (drive (faultResponse .noEvent) none s) := by
  simp [execPub, h, raise_eq]

theorem execPub_of_channelVoice {s : State} {k : CVKind} (h : s.ev.evv = true)
    (hk : classifyChannelVoice (hiNib s.ev.raw0) = some k) :
    execPub s = .next (drive (publishedResponse s.ev) (some (wireOf k s.ev))
      (busAppend ⟨k, mappingOf k s.ev⟩ s)) := by
  simp [execPub, h, hk]

theorem execPub_of_system {s : State} (h : s.ev.evv = true)
    (hk : classifyChannelVoice (hiNib s.ev.raw0) = none) :
    execPub s = .next (drive (diagnosticResponse s.cfg.sysCmd s.ev) none s) := by
  simp [execPub, h, hk, respond_eq]

theorem execClsv_of_some {n : Nib} {k : CVKind} {s : State} (h : classifyChannelVoice n = some k) :
    execClsv n s = .next (drive (okResponse n 0#4 .unknown) none s) := by
  simp [execClsv, h, respond_eq]

theorem execClsv_of_none {n : Nib} {s : State} (h : classifyChannelVoice n = none) :
    execClsv n s = .next (drive (faultResponse .unknownStatus) none s) := by
  simp [execClsv, h, raise_eq]

theorem execFrm_of_some {st d : Byte} {l : Len} {s : State} (h : frame s.cfg st (data7 d) = some l) :
    execFrm st d s = .next (drive
      (okResponse (frameCodes s.cfg.sysCmd st).1 (frameCodes s.cfg.sysCmd st).2 l) none s) := by
  simp [execFrm, h, respond_eq]

theorem execFrm_of_none {st d : Byte} {s : State} (h : frame s.cfg st (data7 d) = none) :
    execFrm st d s = .next (drive (faultResponse .unknownStatus) none s) := by
  simp [execFrm, h, raise_eq]

/-- The result of an instruction, by what it does to the event register and the bus: everything an
instruction can do. -/
inductive Effect (s : State) : State → Prop where
  /-- A decode of a byte 0 that has a kind. -/
  | decoded (b0 b1 b2 : Byte) (k : Kind) (h : kindOf s.cfg.sysCmd b0 = some k) :
      Effect s (drive
        (okResponse (cvkView (builtEvent b0 b1 b2 (kindLength s.cfg k (data7 b1))))
          (sckView s.cfg.sysCmd (builtEvent b0 b1 b2 (kindLength s.cfg k (data7 b1))))
          (kindLength s.cfg k (data7 b1)))
        none (writeEv (builtEvent b0 b1 b2 (kindLength s.cfg k (data7 b1))) s))
  /-- A decode of a byte 0 that has none. -/
  | dropped : Effect s (drive (faultResponse .unknownStatus) none (dropEvent s))
  /-- A channel-voice encode. -/
  | encodedVoice (k : Nib) (c b1 b2 : Byte) (kind : CVKind) (h : classifyChannelVoice k = some kind) :
      Effect s (drive (okResponse k 0#4 (cvLength s.cfg kind (data7 b1))) none
        (writeEv (builtEvent (statusByte k c) b1 b2 (cvLength s.cfg kind (data7 b1))) s))
  /-- A system encode. -/
  | encodedSystem (k : Nib) (b1 b2 : Byte) :
      Effect s (drive
        (okResponse 0#4 (sysCode (classifySystemCommand s.cfg.sysCmd (commandByte k)))
          (sysLength (classifySystemCommand s.cfg.sysCmd (commandByte k))))
        none
        (writeEv (builtEvent (commandByte k) b1 b2
          (sysLength (classifySystemCommand s.cfg.sysCmd (commandByte k)))) s))
  /-- A fault that leaves the event register alone. -/
  | faulted (f : Status) : Effect s (drive (faultResponse f) none s)
  /-- A publication. -/
  | published (k : CVKind) (he : s.ev.evv = true)
      (hk : classifyChannelVoice (hiNib s.ev.raw0) = some k) :
      Effect s (drive (publishedResponse s.ev) (some (wireOf k s.ev))
        (busAppend ⟨k, mappingOf k s.ev⟩ s))
  /-- A PUB on a system command. -/
  | diagnosed (he : s.ev.evv = true) (hk : classifyChannelVoice (hiNib s.ev.raw0) = none) :
      Effect s (drive (diagnosticResponse s.cfg.sysCmd s.ev) none s)
  /-- CLSV on a nibble that has a kind. -/
  | voiceQuery (n : Nib) (k : CVKind) (h : classifyChannelVoice n = some k) :
      Effect s (drive (okResponse n 0#4 .unknown) none s)
  /-- CLSS. -/
  | systemQuery (b : Byte) :
      Effect s (drive (okResponse 0#4 (sysCode (classifySystemCommand s.cfg.sysCmd b))
        (sysLength (classifySystemCommand s.cfg.sysCmd b))) none s)
  /-- FRM on a status byte. -/
  | framed (st d : Byte) (l : Len) (h : frame s.cfg st (data7 d) = some l) :
      Effect s (drive
        (okResponse (frameCodes s.cfg.sysCmd st).1 (frameCodes s.cfg.sysCmd st).2 l) none s)

theorem decodeFromBytes_effect (b0 b1 b2 : Byte) (s : State) :
    ∃ t, decodeFromBytes b0 b1 b2 s = .next t ∧ Effect s t := by
  cases h : kindOf s.cfg.sysCmd b0 with
  | none => exact ⟨_, decodeFromBytes_of_none h, .dropped⟩
  | some k => exact ⟨_, decodeFromBytes_of_some h, .decoded b0 b1 b2 k h⟩

theorem encodeChannelVoice_effect (k : Nib) (c b1 b2 : Byte) (s : State) :
    ∃ t, encodeChannelVoice k c b1 b2 s = .next t ∧ Effect s t := by
  cases h : classifyChannelVoice k with
  | none => exact ⟨_, encodeChannelVoice_of_none h, .faulted _⟩
  | some kind => exact ⟨_, encodeChannelVoice_of_some h, .encodedVoice k c b1 b2 kind h⟩

theorem execPub_effect (s : State) : ∃ t, execPub s = .next t ∧ Effect s t := by
  cases he : s.ev.evv with
  | false => exact ⟨_, execPub_of_noEvent he, .faulted _⟩
  | true =>
    cases hk : classifyChannelVoice (hiNib s.ev.raw0) with
    | none => exact ⟨_, execPub_of_system he hk, .diagnosed he hk⟩
    | some k => exact ⟨_, execPub_of_channelVoice he hk, .published k he hk⟩

theorem execClsv_effect (n : Nib) (s : State) : ∃ t, execClsv n s = .next t ∧ Effect s t := by
  cases h : classifyChannelVoice n with
  | none => exact ⟨_, execClsv_of_none h, .faulted _⟩
  | some k => exact ⟨_, execClsv_of_some h, .voiceQuery n k h⟩

theorem execFrm_effect (st d : Byte) (s : State) : ∃ t, execFrm st d s = .next t ∧ Effect s t := by
  cases h : frame s.cfg st (data7 d) with
  | none => exact ⟨_, execFrm_of_none h, .faulted _⟩
  | some l => exact ⟨_, execFrm_of_some h, .framed st d l h⟩

/-- Every instruction, in every state, has one of the effects above. -/
theorem exec_effect (i : Instr) (s : State) : ∃ t, exec i s = .next t ∧ Effect s t := by
  cases i
  case encv => exact encodeChannelVoice_effect ..
  case encs => exact ⟨_, encodeSystem_eq .., .encodedSystem ..⟩
  case pub => exact execPub_effect s
  case clsv => exact execClsv_effect ..
  case clss b => exact ⟨_, rfl, .systemQuery b⟩
  case frm => exact execFrm_effect ..
  case noteOff ch b1 b2 => exact decodeFromBytes_effect (nibbles 8#4 ch) b1 b2 s
  case noteOn ch b1 b2 => exact decodeFromBytes_effect (nibbles 9#4 ch) b1 b2 s
  case polyphonicAftertouch ch b1 b2 => exact decodeFromBytes_effect (nibbles 10#4 ch) b1 b2 s
  case controllerChange ch b1 b2 => exact decodeFromBytes_effect (nibbles 11#4 ch) b1 b2 s
  case programChange ch b1 b2 => exact decodeFromBytes_effect (nibbles 12#4 ch) b1 b2 s
  case channelAftertouch ch b1 b2 => exact decodeFromBytes_effect (nibbles 13#4 ch) b1 b2 s
  case pitchWheel ch b1 b2 => exact decodeFromBytes_effect (nibbles 14#4 ch) b1 b2 s
  case sysEx b1 b2 => exact decodeFromBytes_effect 0xF0#8 b1 b2 s
  case otherF1 b1 b2 => exact decodeFromBytes_effect 0xF1#8 b1 b2 s
  case songPosition b1 b2 => exact decodeFromBytes_effect 0xF2#8 b1 b2 s
  case songSelect b1 b2 => exact decodeFromBytes_effect 0xF3#8 b1 b2 s
  case otherF4 b1 b2 => exact decodeFromBytes_effect 0xF4#8 b1 b2 s
  case otherF5 b1 b2 => exact decodeFromBytes_effect 0xF5#8 b1 b2 s
  case tuneRequest b1 b2 => exact decodeFromBytes_effect 0xF6#8 b1 b2 s
  case sysExEnd b1 b2 => exact decodeFromBytes_effect 0xF7#8 b1 b2 s
  case timingClock b1 b2 => exact decodeFromBytes_effect 0xF8#8 b1 b2 s
  case otherF9 b1 b2 => exact decodeFromBytes_effect 0xF9#8 b1 b2 s
  case startMsg b1 b2 => exact decodeFromBytes_effect 0xFA#8 b1 b2 s
  case continueMsg b1 b2 => exact decodeFromBytes_effect 0xFB#8 b1 b2 s
  case stopMsg b1 b2 => exact decodeFromBytes_effect 0xFC#8 b1 b2 s
  case otherFD b1 b2 => exact decodeFromBytes_effect 0xFD#8 b1 b2 s
  case activeSensing b1 b2 => exact decodeFromBytes_effect 0xFE#8 b1 b2 s
  case systemReset b1 b2 => exact decodeFromBytes_effect 0xFF#8 b1 b2 s
  case notStatus low b1 b2 => exact decodeFromBytes_effect (nonStatusByte low) b1 b2 s
  case dec b0 b1 b2 => exact decodeFromBytes_effect b0 b1 b2 s
  case buildNoteOn n v c => exact encodeChannelVoice_effect 9#4 c n v s
  case buildNoteOff n v c => exact encodeChannelVoice_effect 8#4 c n v s
  case buildProgramChange p c => exact encodeChannelVoice_effect 12#4 c p 0#8 s
  case buildControllerChange n v c => exact encodeChannelVoice_effect 11#4 c n v s
  all_goals exact ⟨_, rfl, .faulted .illegalCommand⟩

end Sys2Proof.Machine
end

