-- ==== Sys2Proof/Safety.lean ====
section
/-! DEFINITION. What holds of the machine at every moment, and what a run leaves to be observed, in the
terms the statements use (10_state R25, R40 to R43, 70 R244, R254). -/

namespace Sys2Proof.Machine

/-- (I-c) of R25: exactly one of the two kind codes is not 0, the channel-voice one when the high nibble
of byte 0 is 8 to 14 and the system one when it is 15. -/
def OneKind (t : SysCmdTable) (e : Event) : Prop :=
  (8#4 ≤ hiNib e.raw0 ∧ hiNib e.raw0 ≤ 14#4 ∧ cvkView e ≠ 0#4 ∧ sckView t e = 0#4) ∨
    (hiNib e.raw0 = 15#4 ∧ cvkView e = 0#4 ∧ sckView t e ≠ 0#4)

/-- (I-d) of R25: the length is the framer's, and the two length fields hold it as R43 says. -/
def LengthFramed (c : Config) (e : Event) : Prop :=
  ∃ l, frame c e.raw0 e.raw1 = some l ∧ e.lenv = lenKnown l ∧ e.len = lenBits l

/-- (I-e) of R25: the length is unknown exactly for ChannelAftertouch and SysEx. -/
def UnknownLengthKinds (t : SysCmdTable) (e : Event) : Prop :=
  e.lenv = false ↔
    kindOf t e.raw0 = some (.cv .channelAftertouch) ∨ kindOf t e.raw0 = some (.sys .sysEx)

/-- The invariants of `EV` whenever `EVV = 1` (R25); (I-b) says what the byte images of the two data
fields are. -/
def EventInv (c : Config) (e : Event) : Prop :=
  e.evv = true →
    e.raw0.getLsbD 7 = true ∧
    (rawView e 1).getLsbD 7 = false ∧ (rawView e 2).getLsbD 7 = false ∧
    OneKind c.sysCmd e ∧ LengthFramed c e ∧ UnknownLengthKinds c.sysCmd e

/-- The codes that can stand in a response (10_state R40 to R43, 44_publish R199, R201), and that a
fault's response has every other field 0 (60_exceptions R216). -/
def ResponseInv (r : Response) : Prop :=
  (r.cvk = 0#4 ∨ (8#4 ≤ r.cvk ∧ r.cvk ≤ 14#4)) ∧ r.sck ≤ 12#4 ∧ r.diag ≤ 5#3 ∧
    (r.cvk = 0#4 ∨ r.sck = 0#4) ∧ (r.lenv = false ↔ r.len = 0#2) ∧
    (r.published = true → r.cvk ≠ 0#4 ∧ r.diag = 0#3) ∧
    (r.status ≠ 0#2 →
      r.cvk = 0#4 ∧ r.sck = 0#4 ∧ r.lenv = false ∧ r.len = 0#2 ∧ r.published = false ∧ r.diag = 0#3)

/-- The names of the fields of a kind's mapping (44_publish R191 to R197). -/
def fieldNames : CVKind → List FieldName
  | .noteOff => [.note, .velocity, .channel]
  | .noteOn => [.note, .velocity, .channel]
  | .polyphonicAftertouch => [.note, .pressure, .channel]
  | .controllerChange => [.control, .value, .channel]
  | .programChange => [.program, .channel]
  | .channelAftertouch => [.pressure, .channel]
  | .pitchWheel => [.pitchWheel, .channel]

/-- The largest number a field holds (44_publish R191 to R197, 43_accessors R189). -/
def fieldMax : FieldName → Nat
  | .note => 127
  | .velocity => 127
  | .pressure => 127
  | .control => 127
  | .value => 127
  | .program => 127
  | .pitchWheel => 16383
  | .channel => 15

/-- A record on the bus has the fields of its topic, each in its range. -/
def PublicationInv (p : Publication) : Prop :=
  p.mapping.map Prod.fst = fieldNames p.topic ∧ ∀ f ∈ p.mapping, f.2 ≤ fieldMax f.1

/-- The invariant of the machine: the configuration is a lawful one (00_scope R8), the event register
keeps R25, the response holds codes that exist, every record on the bus is one of the seven shapes. -/
def State.Inv (s : State) : Prop :=
  s.cfg.Wf ∧ EventInv s.cfg s.ev ∧ (∀ r, s.rsp = some r → ResponseInv r) ∧
    ∀ p ∈ s.bus, PublicationInv p

/-- A consumer may read byte `i` of the raw buffer as a byte of the message: an event is there, its
length is known and `i` lies within it (20_memory R78, 70 R244, R249). The spec bounds these reads by a
known length alone and does not say which are allowed when the length is Unknown; the model then allows
none, not even that of the status byte `raw[0]`: DESIGN CHOICE (unsafe for a claim that such a read is
forbidden), log 15. -/
def mayRead (e : Event) (i : Fin 3) : Bool :=
  e.evv && e.lenv && decide (i.val < e.len.toNat)

/-- What a run leaves to be observed: the host presents `ps` to a machine in state `s`, one at a step;
the responses in order, and the state at the end, which holds the final `EV` and the bus (R254). -/
def observe : List Presented → State → List Response × State
  | [], s => ([], s)
  | p :: ps, s =>
    match step { s with cmds := p :: ps } with
    | .next t => (t.rsp.toList ++ (observe ps t).1, (observe ps t).2)
    | .fault _ => ([], s)
    | .refused _ => ([], s)

end Sys2Proof.Machine
end

