-- ==== Sys2Proof/Certificates/Slice0/Obligations.lean ====
section
/-! DEFINITION. The statements for the provers. Where a statement gives the whole next state, it says at
once what the instruction changes and that it changes nothing else: every field of State that the update
does not name is the one of the state before (its frame). -/

namespace Sys2Proof.Claims

open Sys2Proof.Machine

/-- `s` after a step that built an event of `r0` and two masked operands, with the given length fields
and kind codes; nothing is handed to the bus, no other field changes. -/
def afterBuild (s : State) (r0 b1 b2 : Byte) (lenv : Bool) (len : BitVec 2) (cvk sck : Nib) : State :=
  { s with
    ev :=
      { evv := true
        raw0 := r0
        raw1 := (b1 &&& 0x7F#8).setWidth 7
        raw2 := (b2 &&& 0x7F#8).setWidth 7
        lenv := lenv
        len := len }
    rsp := some
      { status := 0#2
        cvk := cvk
        sck := sck
        lenv := lenv
        len := len
        published := false
        diag := 0#3 }
    busPort := none }

/-- `s` after a step that only answered: the response, nothing on the bus port, no other field
changes. -/
def afterAnswer (s : State) (cvk sck : Nib) (lenv : Bool) (len : BitVec 2) (diag : BitVec 3) : State :=
  { s with
    rsp := some
      { status := 0#2
        cvk := cvk
        sck := sck
        lenv := lenv
        len := len
        published := false
        diag := diag }
    busPort := none }

/-- The response of a faulting step with STATUS `code`: every other field 0 (60_exceptions R216). -/
def bareFault (code : BitVec 2) : Response where
  status := code
  cvk := 0#4
  sck := 0#4
  lenv := false
  len := 0#2
  published := false
  diag := 0#3

/-- `s` after a fault that writes no state. -/
def afterFault (s : State) (code : BitVec 2) : State :=
  { s with rsp := some (bareFault code), busPort := none }

/-- `t` is `s` after a decode that faulted: the event is gone, what the other fields of `EV` hold is not
said, the response is the bare UnknownStatus, and nothing else the spec names has changed. -/
def DecodeFaulted (s t : State) : Prop :=
  t.ev.evv = false ∧ t.rsp = some (bareFault 1#2) ∧ t.busPort = none ∧ t.bus = s.bus ∧
    t.cfg = s.cfg ∧ t.cmds = s.cmds

/-- `s` after a PUB that published `m` under the topic `k`, with `w` on the bus port. -/
def afterPublish (s : State) (k : CVKind) (m : List (FieldName × Nat)) (w : BusWire) : State :=
  { s with
    rsp := some
      { status := 0#2
        cvk := hiNib s.ev.raw0
        sck := 0#4
        lenv := s.ev.lenv
        len := s.ev.len
        published := true
        diag := 0#3 }
    busPort := some w
    bus := s.bus ++ [⟨k, m⟩] }

/-- The two command words have the same effect on state, response and bus. -/
def SameStep (w w' : Word) : Prop :=
  ∀ (s : State) (rest : List Presented),
    step { s with cmds := .word w :: rest } = step { s with cmds := .word w' :: rest }

/-- The instructions that decode a MIDI message, with its byte 0: DEC and the rows of `midi_byte0`. -/
def decodedByte0 : Instr → Option Byte
  | .noteOff ch _ _ => some (nibbles 8#4 ch)
  | .noteOn ch _ _ => some (nibbles 9#4 ch)
  | .polyphonicAftertouch ch _ _ => some (nibbles 10#4 ch)
  | .controllerChange ch _ _ => some (nibbles 11#4 ch)
  | .programChange ch _ _ => some (nibbles 12#4 ch)
  | .channelAftertouch ch _ _ => some (nibbles 13#4 ch)
  | .pitchWheel ch _ _ => some (nibbles 14#4 ch)
  | .sysEx _ _ => some 0xF0#8
  | .otherF1 _ _ => some 0xF1#8
  | .songPosition _ _ => some 0xF2#8
  | .songSelect _ _ => some 0xF3#8
  | .otherF4 _ _ => some 0xF4#8
  | .otherF5 _ _ => some 0xF5#8
  | .tuneRequest _ _ => some 0xF6#8
  | .sysExEnd _ _ => some 0xF7#8
  | .timingClock _ _ => some 0xF8#8
  | .otherF9 _ _ => some 0xF9#8
  | .startMsg _ _ => some 0xFA#8
  | .continueMsg _ _ => some 0xFB#8
  | .stopMsg _ _ => some 0xFC#8
  | .otherFD _ _ => some 0xFD#8
  | .activeSensing _ _ => some 0xFE#8
  | .systemReset _ _ => some 0xFF#8
  | .notStatus low _ _ => some (nonStatusByte low)
  | .dec b0 _ _ => some b0
  | _ => none

/-- An instruction that decodes a byte 0 with bit 7 clear. -/
def decodesNonStatus (i : Instr) : Prop := ∃ b0, decodedByte0 i = some b0 ∧ b0.getLsbD 7 = false

/-- The encoders: ENCV, ENCS and the pseudo-operations. -/
def isEncoder : Instr → Bool
  | .encv _ _ _ _ => true
  | .encs _ _ _ => true
  | .buildNoteOn _ _ _ => true
  | .buildNoteOff _ _ _ => true
  | .buildProgramChange _ _ => true
  | .buildControllerChange _ _ _ => true
  | _ => false

/-- The instructions that can write the event register (10_state R26): the decoders and the encoders. -/
def buildsEvents (i : Instr) : Bool := (decodedByte0 i).isSome || isEncoder i

/-- The words and rows that raise IllegalCommand (60_exceptions R211). -/
def isIllegal : Instr → Bool
  | .noteOff _ _ _ => false
  | .noteOn _ _ _ => false
  | .polyphonicAftertouch _ _ _ => false
  | .controllerChange _ _ _ => false
  | .programChange _ _ _ => false
  | .channelAftertouch _ _ _ => false
  | .pitchWheel _ _ _ => false
  | .sysEx _ _ => false
  | .otherF1 _ _ => false
  | .songPosition _ _ => false
  | .songSelect _ _ => false
  | .otherF4 _ _ => false
  | .otherF5 _ _ => false
  | .tuneRequest _ _ => false
  | .sysExEnd _ _ => false
  | .timingClock _ _ => false
  | .otherF9 _ _ => false
  | .startMsg _ _ => false
  | .continueMsg _ _ => false
  | .stopMsg _ _ => false
  | .otherFD _ _ => false
  | .activeSensing _ _ => false
  | .systemReset _ _ => false
  | .notStatus _ _ _ => false
  | .dec _ _ _ => false
  | .encv k _ _ _ => decide (k < 8#4 ∨ 14#4 < k)
  | .encs _ _ _ => false
  | .pub => false
  | .clsv _ => false
  | .clss _ => false
  | .frm _ _ => false
  | .reservedOp0 => true
  | .reservedOp8 => true
  | .reservedOp9 => true
  | .reservedOp10 => true
  | .reservedOp11 => true
  | .reservedOp12 => true
  | .reservedOp13 => true
  | .reservedOp14 => true
  | .reservedOp15 => true
  | .encvIllegalK0 => true
  | .encvIllegalK1 => true
  | .encvIllegalK2 => true
  | .encvIllegalK3 => true
  | .encvIllegalK4 => true
  | .encvIllegalK5 => true
  | .encvIllegalK6 => true
  | .encvIllegalK7 => true
  | .encvIllegalK15 => true
  | .buildNoteOn _ _ _ => false
  | .buildNoteOff _ _ _ => false
  | .buildProgramChange _ _ => false
  | .buildControllerChange _ _ _ => false

/-- The other instructions that raise UnknownStatus: CLSV and FRM (60_exceptions R213). -/
def queriesUnknown : Instr → Prop
  | .clsv n => n < 8#4 ∨ 14#4 < n
  | .frm st _ => st.getLsbD 7 = false
  | _ => False

/-- STATUS of the response that stands in a state. -/
def hasStatus (t : State) (code : BitVec 2) : Prop := ∃ r, t.rsp = some r ∧ r.status = code

end Sys2Proof.Claims

open Sys2Proof Sys2Proof.Machine Sys2Proof.Claims

/-! ### Encoding -/

/-- 30_encoding R92, R93, R88, R89: what encodes an instruction decodes to it, every operand kept. The
pseudo-operations are left out because a decoder skips them (R106); `PseudoOperationsExpand` is theirs. -/
def Obligations.DecodeEncodeRoundTrip : Prop :=
  ∀ i : Instr, i.wellFormed = true → i.isPseudo = false → decode (encode i) = i

/-- R168 to R171: each pseudo-operation is one ENCV. It has that ENCV's word, which is the one given, and
that ENCV's meaning; the examples of the four rules. (A control number of 7 lies below every threshold
R8 allows.) -/
def Obligations.PseudoOperationsExpand : Prop :=
  (∀ (note velocity channel : Byte) (s : State),
    encode (.buildNoteOn note velocity channel) = encode (.encv 9#4 channel note velocity) ∧
    encode (.buildNoteOn note velocity channel) =
      .word ((0x29#32 <<< 24) ||| (channel.setWidth 32 <<< 16) ||| (note.setWidth 32 <<< 8)
        ||| velocity.setWidth 32) ∧
    exec (.buildNoteOn note velocity channel) s = exec (.encv 9#4 channel note velocity) s) ∧
  (∀ (note velocity channel : Byte) (s : State),
    encode (.buildNoteOff note velocity channel) = encode (.encv 8#4 channel note velocity) ∧
    encode (.buildNoteOff note velocity channel) =
      .word ((0x28#32 <<< 24) ||| (channel.setWidth 32 <<< 16) ||| (note.setWidth 32 <<< 8)
        ||| velocity.setWidth 32) ∧
    exec (.buildNoteOff note velocity channel) s = exec (.encv 8#4 channel note velocity) s) ∧
  (∀ (program channel : Byte) (s : State),
    encode (.buildProgramChange program channel) = encode (.encv 12#4 channel program 0#8) ∧
    encode (.buildProgramChange program channel) =
      .word ((0x2C#32 <<< 24) ||| (channel.setWidth 32 <<< 16) ||| (program.setWidth 32 <<< 8)) ∧
    exec (.buildProgramChange program channel) s = exec (.encv 12#4 channel program 0#8) s) ∧
  (∀ (control value channel : Byte) (s : State),
    encode (.buildControllerChange control value channel) =
      encode (.encv 11#4 channel control value) ∧
    encode (.buildControllerChange control value channel) =
      .word ((0x2B#32 <<< 24) ||| (channel.setWidth 32 <<< 16) ||| (control.setWidth 32 <<< 8)
        ||| value.setWidth 32) ∧
    exec (.buildControllerChange control value channel) s =
      exec (.encv 11#4 channel control value) s) ∧
  encode (.buildNoteOn 60#8 100#8 0#8) = .word 0x29003C64#32 ∧
  encode (.buildNoteOff 60#8 0#8 0#8) = .word 0x28003C00#32 ∧
  encode (.buildProgramChange 5#8 2#8) = .word 0x2C020500#32 ∧
  encode (.buildControllerChange 7#8 80#8 1#8) = .word 0x2B010750#32 ∧
  (∀ s : State, ∃ t, exec (.buildProgramChange 5#8 2#8) s = .next t ∧
    t.ev = ⟨true, 0xC2#8, 5#7, 0#7, true, 2#2⟩) ∧
  (∀ s : State, s.cfg.Wf → ∃ t, exec (.buildControllerChange 7#8 80#8 1#8) s = .next t ∧
    t.ev = ⟨true, 0xB1#8, 7#7, 0x50#7, true, 3#2⟩)

/-- R94: a field an operation does not use has no effect on state, response or bus, and the assembler
writes 0 there. -/
def Obligations.UnusedFieldsAreIgnored : Prop :=
  (∀ (k : Nib) (x0 x1 x2 : Byte),
    SameStep (commandWord 1#4 k x0 x1 x2) (commandWord 1#4 0#4 x0 x1 x2) ∧
    SameStep (commandWord 3#4 k x0 x1 x2) (commandWord 3#4 k 0#8 x1 x2) ∧
    SameStep (commandWord 4#4 k x0 x1 x2) (commandWord 4#4 0#4 0#8 0#8 0#8) ∧
    SameStep (commandWord 5#4 k x0 x1 x2) (commandWord 5#4 k 0#8 0#8 0#8) ∧
    SameStep (commandWord 6#4 k x0 x1 x2) (commandWord 6#4 0#4 x0 0#8 0#8) ∧
    SameStep (commandWord 7#4 k x0 x1 x2) (commandWord 7#4 0#4 x0 x1 0#8)) ∧
  (∀ (k : Nib) (x0 x1 x2 : Byte),
    encode (.dec x0 x1 x2) = .word (commandWord 1#4 0#4 x0 x1 x2) ∧
    encode (.encs k x1 x2) = .word (commandWord 3#4 k 0#8 x1 x2) ∧
    encode .pub = .word (commandWord 4#4 0#4 0#8 0#8 0#8) ∧
    encode (.clsv k) = .word (commandWord 5#4 k 0#8 0#8 0#8) ∧
    encode (.clss x0) = .word (commandWord 6#4 0#4 x0 0#8 0#8) ∧
    encode (.frm x0 x1) = .word (commandWord 7#4 0#4 x0 x1 0#8))

/-- R92, R93: the operation codes and the fields each operation takes, for every value of them. -/
def Obligations.OperationCodesSelectTheOperation : Prop :=
  ∀ (k : Nib) (x0 x1 x2 : Byte),
    decode (.word (commandWord 1#4 k x0 x1 x2)) = .dec x0 x1 x2 ∧
    (8#4 ≤ k → k ≤ 14#4 → decode (.word (commandWord 2#4 k x0 x1 x2)) = .encv k x0 x1 x2) ∧
    decode (.word (commandWord 3#4 k x0 x1 x2)) = .encs k x1 x2 ∧
    decode (.word (commandWord 4#4 k x0 x1 x2)) = .pub ∧
    decode (.word (commandWord 5#4 k x0 x1 x2)) = .clsv k ∧
    decode (.word (commandWord 6#4 k x0 x1 x2)) = .clss x0 ∧
    decode (.word (commandWord 7#4 k x0 x1 x2)) = .frm x0 x1

/-- A few words of 95_test_vectors and bytes of 30_encoding R88, R89, read as the spec reads them. -/
def Obligations.SpecWordsDecode : Prop :=
  decode (.word 0x10903C64#32) = .dec 0x90#8 0x3C#8 0x64#8 ∧
  decode (.word 0x291FC8FF#32) = .encv 9#4 31#8 200#8 255#8 ∧
  decode (.word 0x3200FFFF#32) = .encs 2#4 0xFF#8 0xFF#8 ∧
  decode (.word 0x40000000#32) = .pub ∧
  decode (.word 0x57FFFFFF#32) = .clsv 7#4 ∧
  decode (.word 0x60F80000#32) = .clss 0xF8#8 ∧
  decode (.word 0x70B0FA00#32) = .frm 0xB0#8 0xFA#8 ∧
  decode (.word 0x90903C64#32) = .reservedOp9 ∧
  decode (.word 0x2F123456#32) = .encvIllegalK15 ∧
  decode (.packet 0xB1#8 0x07#8 0x50#8) = .controllerChange 1#4 0x07#8 0x50#8 ∧
  decode (.packet 0xF4#8 0#8 0#8) = .otherF4 0#8 0#8 ∧
  decode (.packet 0x7F#8 1#8 2#8) = .notStatus 0x7F#7 1#8 2#8

/-- Packets and their instructions are one to one, and a word keeps its meaning when it is written again
as the assembler writes it; a decoder never gives a pseudo-operation or an ill-formed ENCV. (The packet
form is the model's, log 2.) -/
def Obligations.DecodingLosesNothing : Prop :=
  (∀ b0 b1 b2 : Byte, encode (decode (.packet b0 b1 b2)) = .packet b0 b1 b2) ∧
  (∀ w : Word, decode (encode (decode (.word w))) = decode (.word w)) ∧
  (∀ p : Presented, (decode p).wellFormed = true ∧ (decode p).isPseudo = false)

/-- R106: what is presented matches the table row of the instruction it decodes to, and no other row it
matches, the pseudo-operations' apart, has a longer mask. -/
def Obligations.DecoderTakesTheLongestMask : Prop :=
  ∀ p : Presented, (tableRow (decode p)).matches p = true ∧
    ∀ i : Instr, i.isPseudo = false → (tableRow i).matches p = true →
      (tableRow i).fixedBits ≤ (tableRow (decode p)).fixedBits

/-! ### The step -/

/-- A step runs the decoded instruction on the state from which the presented command has been taken;
with nothing presented the run has ended (log 3). -/
def Obligations.StepRunsTheDecodedInstruction : Prop :=
  (∀ (s : State) (p : Presented) (rest : List Presented), s.cmds = p :: rest →
    step s = exec (decode p) { s with cmds := rest }) ∧
  (∀ s : State, s.cmds = [] → step s = .fault .noCommand)

/-- R49, R222: every command word and every packet is answered, in every state, with a response and a
next state; the command is taken and the configuration stays. -/
def Obligations.EveryCommandIsAnswered : Prop :=
  ∀ (s : State) (p : Presented) (rest : List Presented), s.cmds = p :: rest →
    ∃ t r, step s = .next t ∧ t.rsp = some r ∧ t.cmds = rest ∧ t.cfg = s.cfg

/-- R254: a run leaves one response per command, in order, the steps of the machine lead to its end
state, and the bus holds the records of before and one more per response with PUBLISHED = 1. -/
def Obligations.RunLeavesOneResponsePerCommand : Prop :=
  ∀ (ps : List Presented) (s : State),
    (observe ps s).1.length = ps.length ∧
    Host.Core.run core ps.length { s with cmds := ps } =
      .next { (observe ps s).2 with cmds := [] } ∧
    ∃ rs : List Publication, (observe ps s).2.bus = s.bus ++ rs ∧
      rs.length = ((observe ps s).1.filter (fun r => r.published)).length

/-! ### MIDI messages, one row each -/

/-- R131, R132, R133, R137: the four channel-voice kinds of three bytes. -/
def Obligations.ThreeByteVoiceMessages : Prop :=
  ∀ (ch : Nib) (b1 b2 : Byte) (s : State),
    exec (.noteOff ch b1 b2) s = .next (afterBuild s (0x80#8 ||| ch.setWidth 8) b1 b2 true 3#2 8#4 0#4) ∧
    exec (.noteOn ch b1 b2) s = .next (afterBuild s (0x90#8 ||| ch.setWidth 8) b1 b2 true 3#2 9#4 0#4) ∧
    exec (.polyphonicAftertouch ch b1 b2) s =
      .next (afterBuild s (0xA0#8 ||| ch.setWidth 8) b1 b2 true 3#2 10#4 0#4) ∧
    exec (.pitchWheel ch b1 b2) s =
      .next (afterBuild s (0xE0#8 ||| ch.setWidth 8) b1 b2 true 3#2 14#4 0#4)

/-- R134: the length of ControllerChange, by the masked controller number. -/
def Obligations.ControllerChangeMessage : Prop :=
  ∀ (ch : Nib) (b1 b2 : Byte) (s : State),
    exec (.controllerChange ch b1 b2) s =
      .next (afterBuild s (0xB0#8 ||| ch.setWidth 8) b1 b2 true
        (if b1.toNat % 128 < s.cfg.ccThreshold ∨ b1.toNat % 128 = s.cfg.ccLocal.toNat then 3#2 else 2#2)
        11#4 0#4)

/-- R135, R136: ProgramChange has two bytes, ChannelAftertouch an unknown length. -/
def Obligations.ProgramChangeAndChannelAftertouch : Prop :=
  ∀ (ch : Nib) (b1 b2 : Byte) (s : State),
    exec (.programChange ch b1 b2) s =
      .next (afterBuild s (0xC0#8 ||| ch.setWidth 8) b1 b2 true 2#2 12#4 0#4) ∧
    exec (.channelAftertouch ch b1 b2) s =
      .next (afterBuild s (0xD0#8 ||| ch.setWidth 8) b1 b2 false 0#2 13#4 0#4)

/-- R138, R139, R140, with the command bytes of R112 (log 8). -/
def Obligations.SystemMessagesWithData : Prop :=
  ∀ (b1 b2 : Byte) (s : State), s.cfg.sysCmd = midi1Table →
    exec (.sysEx b1 b2) s = .next (afterBuild s 0xF0#8 b1 b2 false 0#2 0#4 1#4) ∧
    exec (.songPosition b1 b2) s = .next (afterBuild s 0xF2#8 b1 b2 true 3#2 0#4 2#4) ∧
    exec (.songSelect b1 b2) s = .next (afterBuild s 0xF3#8 b1 b2 true 2#2 0#4 3#4)

/-- R141 to R148, with the command bytes of R112 (log 8): the system commands of one byte. -/
def Obligations.OneByteSystemMessages : Prop :=
  ∀ (b1 b2 : Byte) (s : State), s.cfg.sysCmd = midi1Table →
    exec (.tuneRequest b1 b2) s = .next (afterBuild s 0xF6#8 b1 b2 true 1#2 0#4 4#4) ∧
    exec (.sysExEnd b1 b2) s = .next (afterBuild s 0xF7#8 b1 b2 true 1#2 0#4 5#4) ∧
    exec (.timingClock b1 b2) s = .next (afterBuild s 0xF8#8 b1 b2 true 1#2 0#4 6#4) ∧
    exec (.startMsg b1 b2) s = .next (afterBuild s 0xFA#8 b1 b2 true 1#2 0#4 7#4) ∧
    exec (.continueMsg b1 b2) s = .next (afterBuild s 0xFB#8 b1 b2 true 1#2 0#4 8#4) ∧
    exec (.stopMsg b1 b2) s = .next (afterBuild s 0xFC#8 b1 b2 true 1#2 0#4 9#4) ∧
    exec (.activeSensing b1 b2) s = .next (afterBuild s 0xFE#8 b1 b2 true 1#2 0#4 10#4) ∧
    exec (.systemReset b1 b2) s = .next (afterBuild s 0xFF#8 b1 b2 true 1#2 0#4 11#4)

/-- R149, R91, with the command bytes of R112 (log 8): the five reserved bytes are Other, of one byte. -/
def Obligations.ReservedBytesAreOther : Prop :=
  ∀ (b1 b2 : Byte) (s : State), s.cfg.sysCmd = midi1Table →
    exec (.otherF1 b1 b2) s = .next (afterBuild s 0xF1#8 b1 b2 true 1#2 0#4 12#4) ∧
    exec (.otherF4 b1 b2) s = .next (afterBuild s 0xF4#8 b1 b2 true 1#2 0#4 12#4) ∧
    exec (.otherF5 b1 b2) s = .next (afterBuild s 0xF5#8 b1 b2 true 1#2 0#4 12#4) ∧
    exec (.otherF9 b1 b2) s = .next (afterBuild s 0xF9#8 b1 b2 true 1#2 0#4 12#4) ∧
    exec (.otherFD b1 b2) s = .next (afterBuild s 0xFD#8 b1 b2 true 1#2 0#4 12#4)

/-- R8, R143: 0xF8 is TimingClock, of one byte, under every lawful table of command bytes. -/
def Obligations.TimingClockUnderEveryTable : Prop :=
  ∀ (b1 b2 : Byte) (s : State), s.cfg.Wf →
    exec (.timingClock b1 b2) s = .next (afterBuild s 0xF8#8 b1 b2 true 1#2 0#4 6#4)

/-- R150: a byte 0 with bit 7 clear clears EVV, raises UnknownStatus, and nothing else changes; as a
message row and as a DEC. -/
def Obligations.NonStatusByteFaults : Prop :=
  (∀ (low : U7) (b1 b2 : Byte) (s : State),
    ∃ t, exec (.notStatus low b1 b2) s = .next t ∧ DecodeFaulted s t) ∧
  (∀ (b0 b1 b2 : Byte) (s : State), b0.getLsbD 7 = false →
    ∃ t, exec (.dec b0 b1 b2) s = .next t ∧ DecodeFaulted s t)

/-! ### DEC, ENCV, ENCS -/

/-- R130, the whole operation: its command word, with `K` ignored, and the three arms of the
dispatcher. -/
def Obligations.DecDecodesTheMessage : Prop :=
  ∀ (b0 b1 b2 : Byte) (s : State),
    (∀ k : Nib, decode (.word (commandWord 1#4 k b0 b1 b2)) = .dec b0 b1 b2) ∧
    (classOf b0 = .notStatus → ∃ t, exec (.dec b0 b1 b2) s = .next t ∧ DecodeFaulted s t) ∧
    (classOf b0 = .channelVoice → ∃ k, classifyChannelVoice (hiNib b0) = some k ∧
      exec (.dec b0 b1 b2) s =
        .next (afterBuild s b0 b1 b2 (lenKnown (cvLength s.cfg k (data7 b1)))
          (lenBits (cvLength s.cfg k (data7 b1))) (cvCode k) 0#4)) ∧
    (classOf b0 = .system → classifySystemCommand s.cfg.sysCmd b0 ≠ .none ∧
      exec (.dec b0 b1 b2) s =
        .next (afterBuild s b0 b1 b2 (lenKnown (sysLength (classifySystemCommand s.cfg.sysCmd b0)))
          (lenBits (sysLength (classifySystemCommand s.cfg.sysCmd b0))) 0#4
          (sysCode (classifySystemCommand s.cfg.sysCmd b0))))

/-- A packet runs as the DEC of its three bytes: the packet form the model adds (log 2) brings nothing
that the command port does not. -/
def Obligations.PacketRunsAsDec : Prop :=
  ∀ (b0 b1 b2 : Byte) (s : State),
    exec (decode (.packet b0 b1 b2)) s = exec (.dec b0 b1 b2) s

/-- R151: what DEC leaves of the data bytes and the channel (P1, P2), the lengths (P3, with the command
bytes of R112 for SongPosition and SongSelect, log 8), and what the length depends on (P4). -/
def Obligations.DecKeepsDataChannelAndLength : Prop :=
  ∀ (b0 b1 b2 : Byte) (s : State), b0.getLsbD 7 = true →
    ∃ t, exec (.dec b0 b1 b2) s = .next t ∧ t.ev.evv = true ∧
      data1View t.ev = (b1 &&& 0x7F#8).setWidth 7 ∧ data2View t.ev = (b2 &&& 0x7F#8).setWidth 7 ∧
      (hiNib b0 ≠ 15#4 → channelView t.ev = (b0 &&& 0x0F#8).setWidth 4) ∧
      (hiNib b0 = 12#4 ∨ (b0 = 0xF3#8 ∧ s.cfg.sysCmd = midi1Table) → lengthView t.ev = .two) ∧
      (s.cfg.sysCmd = midi1Table → (0xF4#8 ≤ b0 ∨ b0 = 0xF1#8) → lengthView t.ev = .one) ∧
      (hiNib b0 = 8#4 ∨ hiNib b0 = 9#4 ∨ hiNib b0 = 10#4 ∨ hiNib b0 = 14#4 ∨
        (b0 = 0xF2#8 ∧ s.cfg.sysCmd = midi1Table) → lengthView t.ev = .three) ∧
      ∀ b1' b2' : Byte, (b1' = b1 ∨ hiNib b0 ≠ 11#4) →
        ∃ u, exec (.dec b0 b1' b2') s = .next u ∧ lengthView u.ev = lengthView t.ev

/-- R160, the whole operation: its command word, the event of a kind nibble 8 to 14, and IllegalCommand
with `EV` as it was for any other (R96). -/
def Obligations.EncvBuildsTheEvent : Prop :=
  ∀ (k : Nib) (channel b1 b2 : Byte) (s : State),
    ((k < 8#4 ∨ 14#4 < k) → exec (.encv k channel b1 b2) s = .next (afterFault s 2#2) ∧
      exec (decode (.word (commandWord 2#4 k channel b1 b2))) s = .next (afterFault s 2#2)) ∧
    (8#4 ≤ k → k ≤ 14#4 → ∃ kind, classifyChannelVoice k = some kind ∧
      decode (.word (commandWord 2#4 k channel b1 b2)) = .encv k channel b1 b2 ∧
      exec (.encv k channel b1 b2) s =
        .next (afterBuild s ((k.setWidth 8 <<< 4) ||| (channel &&& 0x0F#8)) b1 b2
          (lenKnown (cvLength s.cfg kind (data7 b1))) (lenBits (cvLength s.cfg kind (data7 b1))) k 0#4))

/-- R166: ENCV by kind. -/
def Obligations.EncvByKind : Prop :=
  ∀ (channel b1 b2 : Byte) (s : State),
    exec (.encv 8#4 channel b1 b2) s =
      .next (afterBuild s (0x80#8 ||| (channel &&& 0x0F#8)) b1 b2 true 3#2 8#4 0#4) ∧
    exec (.encv 9#4 channel b1 b2) s =
      .next (afterBuild s (0x90#8 ||| (channel &&& 0x0F#8)) b1 b2 true 3#2 9#4 0#4) ∧
    exec (.encv 10#4 channel b1 b2) s =
      .next (afterBuild s (0xA0#8 ||| (channel &&& 0x0F#8)) b1 b2 true 3#2 10#4 0#4) ∧
    exec (.encv 11#4 channel b1 b2) s =
      .next (afterBuild s (0xB0#8 ||| (channel &&& 0x0F#8)) b1 b2 true
        (if b1.toNat % 128 < s.cfg.ccThreshold ∨ b1.toNat % 128 = s.cfg.ccLocal.toNat then 3#2 else 2#2)
        11#4 0#4) ∧
    exec (.encv 12#4 channel b1 b2) s =
      .next (afterBuild s (0xC0#8 ||| (channel &&& 0x0F#8)) b1 b2 true 2#2 12#4 0#4) ∧
    exec (.encv 13#4 channel b1 b2) s =
      .next (afterBuild s (0xD0#8 ||| (channel &&& 0x0F#8)) b1 b2 false 0#2 13#4 0#4) ∧
    exec (.encv 14#4 channel b1 b2) s =
      .next (afterBuild s (0xE0#8 ||| (channel &&& 0x0F#8)) b1 b2 true 3#2 14#4 0#4)

/-- R161, the whole operation: its command word, with `X0` ignored, and the event it builds, for all
sixteen nibbles. -/
def Obligations.EncsBuildsTheEvent : Prop :=
  ∀ (k : Nib) (b1 b2 : Byte) (s : State),
    (∀ x0 : Byte, decode (.word (commandWord 3#4 k x0 b1 b2)) = .encs k b1 b2) ∧
    exec (.encs k b1 b2) s =
      .next (afterBuild s (0xF0#8 ||| k.setWidth 8) b1 b2
        (lenKnown (sysLength (classifySystemCommand s.cfg.sysCmd (0xF0#8 ||| k.setWidth 8))))
        (lenBits (sysLength (classifySystemCommand s.cfg.sysCmd (0xF0#8 ||| k.setWidth 8)))) 0#4
        (sysCode (classifySystemCommand s.cfg.sysCmd (0xF0#8 ||| k.setWidth 8))))

/-- R168 to R171: the events the four pseudo-operations build. -/
def Obligations.BuildersBuildTheirEvent : Prop :=
  ∀ (x y channel : Byte) (s : State),
    exec (.buildNoteOn x y channel) s =
      .next (afterBuild s (0x90#8 ||| (channel &&& 0x0F#8)) x y true 3#2 9#4 0#4) ∧
    exec (.buildNoteOff x y channel) s =
      .next (afterBuild s (0x80#8 ||| (channel &&& 0x0F#8)) x y true 3#2 8#4 0#4) ∧
    exec (.buildProgramChange x channel) s =
      .next (afterBuild s (0xC0#8 ||| (channel &&& 0x0F#8)) x 0#8 true 2#2 12#4 0#4) ∧
    exec (.buildControllerChange x y channel) s =
      .next (afterBuild s (0xB0#8 ||| (channel &&& 0x0F#8)) x y true
        (if x.toNat % 128 < s.cfg.ccThreshold ∨ x.toNat % 128 = s.cfg.ccLocal.toNat then 3#2 else 2#2)
        11#4 0#4)

/-- R164, first direction: a DEC of the raw bytes of an encoded event leaves the event as it is, and the
views give the kind, the channel and the masked data. -/
def Obligations.EncodeThenDecodeRoundTrip : Prop :=
  (∀ (k : Nib) (channel b1 b2 : Byte) (s : State), 8#4 ≤ k → k ≤ 14#4 →
    ∃ t u, exec (.encv k channel b1 b2) s = .next t ∧
      exec (.dec (rawView t.ev 0) (rawView t.ev 1) (rawView t.ev 2)) t = .next u ∧
      u.ev = t.ev ∧ cvkView u.ev = k ∧ channelView u.ev = (channel &&& 0x0F#8).setWidth 4 ∧
      data1View u.ev = (b1 &&& 0x7F#8).setWidth 7 ∧ data2View u.ev = (b2 &&& 0x7F#8).setWidth 7) ∧
  (∀ (k : Nib) (b1 b2 : Byte) (s : State),
    ∃ t u, exec (.encs k b1 b2) s = .next t ∧
      exec (.dec (rawView t.ev 0) (rawView t.ev 1) (rawView t.ev 2)) t = .next u ∧
      u.ev = t.ev ∧ cvkView u.ev = 0#4 ∧ channelView u.ev = 0#4 ∧
      sckView u.cfg.sysCmd u.ev = sysCode (classifySystemCommand s.cfg.sysCmd (0xF0#8 ||| k.setWidth 8)) ∧
      data1View u.ev = (b1 &&& 0x7F#8).setWidth 7 ∧ data2View u.ev = (b2 &&& 0x7F#8).setWidth 7)

/-- R164, the other direction: what DEC builds, an encoder builds from the nibbles of byte 0. -/
def Obligations.DecodeIsAnEncode : Prop :=
  ∀ (b0 b1 b2 : Byte) (s : State), b0.getLsbD 7 = true →
    exec (.dec b0 b1 b2) s =
      if hiNib b0 = 15#4 then exec (.encs (loNib b0) b1 b2) s
      else exec (.encv (hiNib b0) ((loNib b0).setWidth 8) b1 b2) s

/-! ### PUB -/

/-- R190 to R197, R204: PUB on a channel-voice event hands exactly one record to the bus, under the
kind's topic, with the fields of the kind, drives the record's wires, and leaves the event as it is. -/
def Obligations.PubPublishesTheMapping : Prop :=
  ∀ s : State, s.ev.evv = true →
    (hiNib s.ev.raw0 = 8#4 → exec .pub s = .next (afterPublish s .noteOff
      [(.note, s.ev.raw1.toNat), (.velocity, s.ev.raw2.toNat), (.channel, (loNib s.ev.raw0).toNat)]
      ⟨8#4, s.ev.raw1.setWidth 14, s.ev.raw2, true, loNib s.ev.raw0⟩)) ∧
    (hiNib s.ev.raw0 = 9#4 → exec .pub s = .next (afterPublish s .noteOn
      [(.note, s.ev.raw1.toNat), (.velocity, s.ev.raw2.toNat), (.channel, (loNib s.ev.raw0).toNat)]
      ⟨9#4, s.ev.raw1.setWidth 14, s.ev.raw2, true, loNib s.ev.raw0⟩)) ∧
    (hiNib s.ev.raw0 = 10#4 → exec .pub s = .next (afterPublish s .polyphonicAftertouch
      [(.note, s.ev.raw1.toNat), (.pressure, s.ev.raw2.toNat), (.channel, (loNib s.ev.raw0).toNat)]
      ⟨10#4, s.ev.raw1.setWidth 14, s.ev.raw2, true, loNib s.ev.raw0⟩)) ∧
    (hiNib s.ev.raw0 = 11#4 → exec .pub s = .next (afterPublish s .controllerChange
      [(.control, s.ev.raw1.toNat), (.value, s.ev.raw2.toNat), (.channel, (loNib s.ev.raw0).toNat)]
      ⟨11#4, s.ev.raw1.setWidth 14, s.ev.raw2, true, loNib s.ev.raw0⟩)) ∧
    (hiNib s.ev.raw0 = 12#4 → exec .pub s = .next (afterPublish s .programChange
      [(.program, s.ev.raw1.toNat), (.channel, (loNib s.ev.raw0).toNat)]
      ⟨12#4, s.ev.raw1.setWidth 14, 0#7, false, loNib s.ev.raw0⟩)) ∧
    (hiNib s.ev.raw0 = 13#4 → exec .pub s = .next (afterPublish s .channelAftertouch
      [(.pressure, s.ev.raw1.toNat), (.channel, (loNib s.ev.raw0).toNat)]
      ⟨13#4, s.ev.raw1.setWidth 14, 0#7, false, loNib s.ev.raw0⟩)) ∧
    (hiNib s.ev.raw0 = 14#4 → exec .pub s = .next (afterPublish s .pitchWheel
      [(.pitchWheel, s.ev.raw1.toNat + 128 * s.ev.raw2.toNat), (.channel, (loNib s.ev.raw0).toNat)]
      ⟨14#4, combined s.ev.raw1 s.ev.raw2, 0#7, false, loNib s.ev.raw0⟩))

/-- R204: what stands on the bus port for an event is its mapping in wires: the topic's code, the first
named field, the second or 0, whether there is a second, the channel. -/
def Obligations.BusPortCarriesTheMapping : Prop :=
  ∀ (k : CVKind) (e : Event), e.evv = true →
    (wireOf k e).topic = cvCode k ∧
    (wireOf k e).ch.toNat = (((mappingOf k e).lookup .channel).getD 16) ∧
    (mappingOf k e).head?.map Prod.snd = some (wireOf k e).a.toNat ∧
    ((wireOf k e).bv = true ↔ (mappingOf k e).length = 3) ∧
    ((wireOf k e).bv = true → ((mappingOf k e)[1]?).map Prod.snd = some (wireOf k e).b.toNat) ∧
    ((wireOf k e).bv = false → (wireOf k e).b = 0#7)

/-- R198, R200, R201: PUB on a system command publishes nothing and answers with the diagnostic of its
kind. -/
def Obligations.PubReportsTheDiagnostic : Prop :=
  ∀ s : State, s.ev.evv = true → hiNib s.ev.raw0 = 15#4 →
    exec .pub s = .next (afterAnswer s 0#4 (sysCode (classifySystemCommand s.cfg.sysCmd s.ev.raw0))
      s.ev.lenv s.ev.len
      (if classifySystemCommand s.cfg.sysCmd s.ev.raw0 = .timingClock then 1#3
        else if classifySystemCommand s.cfg.sysCmd s.ev.raw0 = .sysEx then 2#3
        else if classifySystemCommand s.cfg.sysCmd s.ev.raw0 = .sysExEnd then 3#3
        else if classifySystemCommand s.cfg.sysCmd s.ev.raw0 = .systemReset then 4#3
        else 5#3))

/-- R206, R212: PUB with EVV = 0 raises NoEvent; nothing is published and `EV` stays. -/
def Obligations.PubWithoutEventFaults : Prop :=
  ∀ s : State, s.ev.evv = false → exec .pub s = .next (afterFault s 3#2)

/-- R199: PUBLISHED = 1 exactly when the event is channel-voice, whatever its length; then a mapping is
handed over, else none. -/
def Obligations.PublishedExactlyForVoiceKinds : Prop :=
  ∀ s : State, s.ev.evv = true →
    ∃ t r, exec .pub s = .next t ∧ t.rsp = some r ∧ (r.published = true ↔ cvkView s.ev ≠ 0#4) ∧
      (r.published = true → ∃ k, classifyChannelVoice (hiNib s.ev.raw0) = some k ∧
        t.bus = s.bus ++ [⟨k, mappingOf k s.ev⟩]) ∧
      (r.published = false → t.bus = s.bus ∧ t.busPort = none)

/-- R205: two PUBs in a row on the same event publish two identical records. -/
def Obligations.PubTwicePublishesTwice : Prop :=
  ∀ s : State, s.ev.evv = true → cvkView s.ev ≠ 0#4 →
    ∃ t u p, exec .pub s = .next t ∧ exec .pub t = .next u ∧ t.ev = s.ev ∧ u.ev = s.ev ∧
      t.bus = s.bus ++ [p] ∧ u.bus = s.bus ++ [p, p] ∧ u.rsp = t.rsp ∧ u.busPort = t.busPort

/-! ### Queries -/

/-- R118, the whole operation: CLSV. -/
def Obligations.ClsvClassifiesTheNibble : Prop :=
  ∀ (n : Nib) (s : State),
    (∀ x0 x1 x2 : Byte, decode (.word (commandWord 5#4 n x0 x1 x2)) = .clsv n) ∧
    exec (.clsv n) s =
      .next (if 8#4 ≤ n ∧ n ≤ 14#4 then afterAnswer s n 0#4 false 0#2 0#3 else afterFault s 1#2)

/-- R119, the whole operation: CLSS, for all 256 bytes; below 0xF0 the answer is None. -/
def Obligations.ClssClassifiesTheByte : Prop :=
  ∀ (b : Byte) (s : State),
    (∀ (k : Nib) (x1 x2 : Byte), decode (.word (commandWord 6#4 k b x1 x2)) = .clss b) ∧
    exec (.clss b) s = .next (afterAnswer s 0#4 (sysCode (classifySystemCommand s.cfg.sysCmd b))
      (lenKnown (sysLength (classifySystemCommand s.cfg.sysCmd b)))
      (lenBits (sysLength (classifySystemCommand s.cfg.sysCmd b))) 0#3) ∧
    (b < 0xF0#8 → exec (.clss b) s = .next (afterAnswer s 0#4 0#4 false 0#2 0#3))

/-- R120, the whole operation: FRM answers with the framer's length and the kind of the status byte, exactly the codes and
length fields that a DEC of the same bytes leaves, and writes no state. -/
def Obligations.FrmFramesWithoutTouchingTheEvent : Prop :=
  ∀ (st d x : Byte) (s : State),
    (∀ (k : Nib) (x2 : Byte), decode (.word (commandWord 7#4 k st d x2)) = .frm st d) ∧
    (st.getLsbD 7 = false → exec (.frm st d) s = .next (afterFault s 1#2)) ∧
    (st.getLsbD 7 = true → ∃ l t, frame s.cfg st (data7 d) = some l ∧
      exec (.frm st d) s = .next (afterAnswer s
        (if classOf st = .channelVoice then hiNib st else 0#4)
        (if classOf st = .channelVoice then 0#4 else sysCode (classifySystemCommand s.cfg.sysCmd st))
        (lenKnown l) (lenBits l) 0#3) ∧
      exec (.dec st d x) s = .next t ∧ t.ev.lenv = lenKnown l ∧ t.ev.len = lenBits l ∧
      cvkView t.ev = (if classOf st = .channelVoice then hiNib st else 0#4) ∧
      sckView t.cfg.sysCmd t.ev =
        (if classOf st = .channelVoice then 0#4 else sysCode (classifySystemCommand s.cfg.sysCmd st)))

/-! ### Illegal commands -/

/-- R95: every word with a reserved operation code raises IllegalCommand; `EV` and the bus stay. -/
def Obligations.ReservedCodesAreIllegal : Prop :=
  (∀ (w : Word) (s : State), (w >>> 28 = 0#32 ∨ 8#32 ≤ w >>> 28) →
    exec (decode (.word w)) s = .next (afterFault s 2#2)) ∧
  (∀ s : State, exec .reservedOp0 s = .next (afterFault s 2#2) ∧
    exec .reservedOp8 s = .next (afterFault s 2#2) ∧ exec .reservedOp9 s = .next (afterFault s 2#2) ∧
    exec .reservedOp10 s = .next (afterFault s 2#2) ∧ exec .reservedOp11 s = .next (afterFault s 2#2) ∧
    exec .reservedOp12 s = .next (afterFault s 2#2) ∧ exec .reservedOp13 s = .next (afterFault s 2#2) ∧
    exec .reservedOp14 s = .next (afterFault s 2#2) ∧ exec .reservedOp15 s = .next (afterFault s 2#2))

/-- R96: every ENCV word whose nibble names no kind raises IllegalCommand and changes nothing; ENCS
accepts all sixteen nibbles (a response with STATUS = OK and an event). -/
def Obligations.EncvWithoutKindIsIllegal : Prop :=
  (∀ (k : Nib) (x0 x1 x2 : Byte) (s : State), (k < 8#4 ∨ 14#4 < k) →
    exec (decode (.word (commandWord 2#4 k x0 x1 x2))) s = .next (afterFault s 2#2)) ∧
  (∀ s : State, exec .encvIllegalK0 s = .next (afterFault s 2#2) ∧
    exec .encvIllegalK1 s = .next (afterFault s 2#2) ∧ exec .encvIllegalK2 s = .next (afterFault s 2#2) ∧
    exec .encvIllegalK3 s = .next (afterFault s 2#2) ∧ exec .encvIllegalK4 s = .next (afterFault s 2#2) ∧
    exec .encvIllegalK5 s = .next (afterFault s 2#2) ∧ exec .encvIllegalK6 s = .next (afterFault s 2#2) ∧
    exec .encvIllegalK7 s = .next (afterFault s 2#2) ∧ exec .encvIllegalK15 s = .next (afterFault s 2#2)) ∧
  (∀ (k : Nib) (b1 b2 : Byte) (s : State),
    ∃ t, exec (.encs k b1 b2) s = .next t ∧ hasStatus t 0#2 ∧ t.ev.evv = true)

/-! ### Faults -/

/-- R211, R212, R213, R218: which instruction raises which fault, and in which states; in every other
case STATUS is OK. -/
def Obligations.FaultsExactlyWhereTheSpecRaisesThem : Prop :=
  ∀ (i : Instr) (s : State), ∃ t, exec i s = .next t ∧
    (hasStatus t 1#2 ↔ decodesNonStatus i ∨ queriesUnknown i) ∧
    (hasStatus t 2#2 ↔ isIllegal i = true) ∧
    (hasStatus t 3#2 ↔ i = .pub ∧ s.ev.evv = false) ∧
    (hasStatus t 0#2 ↔ ¬ (decodesNonStatus i ∨ queriesUnknown i) ∧ isIllegal i = false ∧
      ¬ (i = .pub ∧ s.ev.evv = false))

/-- R215: a fault writes no state, but for a decode, which drops the event; no fault publishes. -/
def Obligations.FaultsWriteNoState : Prop :=
  ∀ (i : Instr) (s t : State), exec i s = .next t → ¬ hasStatus t 0#2 →
    (t.ev = s.ev ∨ (decodesNonStatus i ∧ hasStatus t 1#2 ∧ t.ev.evv = false)) ∧
    t.bus = s.bus ∧ t.busPort = none ∧ t.cfg = s.cfg ∧ t.cmds = s.cmds

/-- R216: the response of a faulting step has every field but STATUS at 0. -/
def Obligations.FaultResponseIsBare : Prop :=
  ∀ (i : Instr) (s t : State) (r : Response), exec i s = .next t → t.rsp = some r → r.status ≠ 0#2 →
    r = bareFault r.status

/-- R29, R240: among the steps only a faulting decode clears EVV. -/
def Obligations.OnlyFaultingDecodeClearsTheEvent : Prop :=
  ∀ (i : Instr) (s t : State), exec i s = .next t → s.ev.evv = true → t.ev.evv = false →
    decodesNonStatus i ∧ hasStatus t 1#2

/-! ### The event register and the bus -/

/-- R26: `EV` is written only by DEC, ENCV and ENCS (and the messages and pseudo-operations that are
one of them). -/
def Obligations.OnlyConstructorsWriteTheEvent : Prop :=
  ∀ (i : Instr) (s t : State), exec i s = .next t → t.ev ≠ s.ev → buildsEvents i = true

/-- R26: a new event replaces the old one whole. Two states that agree on the configuration alone give
the same event and the same response; nothing of the old event survives. -/
def Obligations.NewEventForgetsTheOld : Prop :=
  ∀ (i : Instr) (s s' t t' : State), buildsEvents i = true → isIllegal i = false → s.cfg = s'.cfg →
    exec i s = .next t → exec i s' = .next t' →
    t.rsp = t'.rsp ∧ t.ev.evv = t'.ev.evv ∧ (t.ev.evv = true → t.ev = t'.ev)

/-- R36, R202: the bus history only grows, by exactly one record at a PUB that answers PUBLISHED = 1, with
the wires of that record on the bus port at that step; at every other step nothing. -/
def Obligations.BusGrowsOnlyByPublishing : Prop :=
  ∀ (i : Instr) (s t : State) (r : Response), exec i s = .next t → t.rsp = some r →
    (r.published = true ∧ i = .pub ∧
      ∃ k, classifyChannelVoice (hiNib s.ev.raw0) = some k ∧
        t.bus = s.bus ++ [⟨k, mappingOf k s.ev⟩] ∧ t.busPort = some (wireOf k s.ev)) ∨
    (r.published = false ∧ t.bus = s.bus ∧ t.busPort = none)

/-- R25, R30, R40 to R43, R207: the invariant of the machine is kept by every step. -/
def Obligations.EveryStepKeepsTheInvariant : Prop :=
  ∀ s t : State, s.Inv → step s = .next t → t.Inv

/-- The invariant holds at reset. -/
def Obligations.ResetMeetsTheInvariant : Prop := State.reset.Inv

/-- R46, R47: after reset no event, no response, nothing published. -/
def Obligations.ResetLeavesNoEvent : Prop :=
  State.reset.ev.evv = false ∧ State.reset.bus = [] ∧ State.reset.busPort = none ∧ State.reset.rsp = none

/-- R240, R48: the reset input clears EVV, leaves nothing published and does not touch the constants;
after it PUB raises NoEvent. -/
def Obligations.ResetInputClearsTheEvent : Prop :=
  ∀ s : State, (applyReset s).ev.evv = false ∧ (applyReset s).bus = [] ∧ (applyReset s).rsp = none ∧
    (applyReset s).busPort = none ∧ (applyReset s).cfg = s.cfg ∧
    exec .pub (applyReset s) = .next (afterFault (applyReset s) 3#2)

/-- R30, R48: no step changes the configuration. -/
def Obligations.StepsKeepTheConfiguration : Prop :=
  ∀ s t : State, step s = .next t → t.cfg = s.cfg

/-! ### Views and tables -/

/-- R183, R86, R189 (e): the combined value is the sum and the OR of its parts, at most 16383, and the
map from the two data values is a bijection with the inverse given. -/
def Obligations.CombinedValueIsABijection : Prop :=
  (∀ d1 d2 : U7, (combined d1 d2).toNat = d1.toNat + 128 * d2.toNat ∧
    combined d1 d2 = d1.setWidth 14 ||| (d2.setWidth 14 <<< 7) ∧ (combined d1 d2).toNat ≤ 16383 ∧
    (combined d1 d2 &&& 0x7F#14).setWidth 7 = d1 ∧ (combined d1 d2 >>> 7).setWidth 7 = d2) ∧
  (∀ v : U14, combined ((v &&& 0x7F#14).setWidth 7) ((v >>> 7).setWidth 7) = v)

/-- R189 (a) to (d): the masks and the byte assembly as numbers. -/
def Obligations.ByteArithmetic : Prop :=
  (∀ b : Byte, (data7 b).toNat = b.toNat % 128 ∧ (loNib b).toNat = b.toNat % 16 ∧
    (hiNib b).toNat = b.toNat / 16) ∧
  (∀ (k : Nib) (c : Byte), (statusByte k c).toNat = 16 * k.toNat + c.toNat % 16) ∧
  (∀ k : Nib, (commandByte k).toNat = 240 + k.toNat)

/-- R180, R185, R186: the channel and the two kind codes of an event, by its byte 0. The rules assume
`EVV = 1`. (The last clause is the rules' "else 0"; no run reaches an event with bit 7 of byte 0 clear.) -/
def Obligations.ViewsFollowTheStatusByte : Prop :=
  ∀ (t : SysCmdTable) (e : Event), e.evv = true →
    (∀ k, classifyChannelVoice (hiNib e.raw0) = some k →
      channelView e = loNib e.raw0 ∧ cvkView e = cvCode k ∧ sckView t e = 0#4) ∧
    (hiNib e.raw0 = 15#4 →
      channelView e = 0#4 ∧ cvkView e = 0#4 ∧ sckView t e = sysCode (classifySystemCommand t e.raw0)) ∧
    (e.raw0.getLsbD 7 = false → channelView e = 0#4 ∧ cvkView e = 0#4 ∧ sckView t e = 0#4)

/-- R187, R22, R77: the raw bytes of an event, bit 7 of the data bytes always clear, and the combined
value as two bytes. The rules assume `EVV = 1`. -/
def Obligations.RawBytesAndCombinedAgree : Prop :=
  ∀ e : Event, e.evv = true → rawView e 0 = e.raw0 ∧
    rawView e 1 = (0#1 ++ e.raw1 : BitVec (1 + 7)) ∧ rawView e 2 = (0#1 ++ e.raw2 : BitVec (1 + 7)) ∧
    (rawView e 1).getLsbD 7 = false ∧ (rawView e 2).getLsbD 7 = false ∧
    (combined14View e).toNat = (rawView e 1).toNat + (rawView e 2).toNat * 128

/-- R187, R78, R244: for an event whose length fields are the framer's, the bytes of the message are the
first LEN bytes of the raw buffer, exactly those a consumer may read; with an unknown length there is no
count. That a consumer may then read no byte, not even the status byte, is the model's choice (log 15). -/
def Obligations.MessageBytesLieWithinTheLength : Prop :=
  ∀ (c : Config) (e : Event), e.evv = true → LengthFramed c e →
    (e.lenv = false → wireBytes e = none ∧ ∀ i, mayRead e i = false) ∧
    (e.lenv = true → ∃ bs, wireBytes e = some bs ∧ bs.length = e.len.toNat ∧
      ∀ i : Fin 3, (mayRead e i = true ↔ i.val < bs.length) ∧
        (mayRead e i = true → bs[i.val]? = some (rawView e i)))

/-- R38, R180 to R188: what the event view ports hold. While EVV = 1 they are the views of the event;
while EVV = 0 they have no value, which is how the model writes R188 (log 6). -/
def Obligations.PortsNeedAnEvent : Prop :=
  ∀ s : State,
    (s.ev.evv = true → ∃ p, portImage s = some p ∧
      p.raw0 = s.ev.raw0 ∧ p.raw1 = s.ev.raw1 ∧ p.raw2 = s.ev.raw2 ∧
      p.lenv = s.ev.lenv ∧ p.len = s.ev.len ∧
      p.channel = (if 8#4 ≤ hiNib s.ev.raw0 ∧ hiNib s.ev.raw0 ≤ 14#4 then loNib s.ev.raw0 else 0#4) ∧
      p.combined14.toNat = s.ev.raw1.toNat + 128 * s.ev.raw2.toNat ∧
      p.cvk = (if 8#4 ≤ hiNib s.ev.raw0 ∧ hiNib s.ev.raw0 ≤ 14#4 then hiNib s.ev.raw0 else 0#4) ∧
      p.sck = (if hiNib s.ev.raw0 = 15#4 then sysCode (classifySystemCommand s.cfg.sysCmd s.ev.raw0)
        else 0#4)) ∧
    (s.ev.evv = false → portImage s = none)

/-- R111: the channel-voice table and its inverse. -/
def Obligations.VoiceTableAndInverse : Prop :=
  classifyChannelVoice 8#4 = some .noteOff ∧ classifyChannelVoice 9#4 = some .noteOn ∧
  classifyChannelVoice 10#4 = some .polyphonicAftertouch ∧
  classifyChannelVoice 11#4 = some .controllerChange ∧ classifyChannelVoice 12#4 = some .programChange ∧
  classifyChannelVoice 13#4 = some .channelAftertouch ∧ classifyChannelVoice 14#4 = some .pitchWheel ∧
  (∀ n : Nib, (n < 8#4 ∨ n = 15#4) → classifyChannelVoice n = none) ∧
  (∀ (n : Nib) (k : CVKind), classifyChannelVoice n = some k ↔ cvCode k = n)

/-- R112 at the default table (log 8): the sixteen command bytes, and `None` below. -/
def Obligations.SystemTableOfMidi : Prop :=
  [0xF0#8, 0xF1#8, 0xF2#8, 0xF3#8, 0xF4#8, 0xF5#8, 0xF6#8, 0xF7#8,
   0xF8#8, 0xF9#8, 0xFA#8, 0xFB#8, 0xFC#8, 0xFD#8, 0xFE#8, 0xFF#8].map
      (classifySystemCommand midi1Table) =
    [.sysEx, .other, .songPosition, .songSelect, .other, .other, .tuneRequest, .sysExEnd,
     .timingClock, .other, .start, .cont, .stop, .other, .activeSensing, .systemReset] ∧
  ∀ (t : SysCmdTable) (b : Byte), b < 0xF0#8 → classifySystemCommand t b = .none

/-- R112, R8: under every lawful table the command byte of a named kind classifies as that kind, and a
command byte that is no named kind's is Other. -/
def Obligations.CommandByteIsTheInverse : Prop :=
  ∀ c : Config, c.Wf →
    (∀ k ∈ namedSysKinds, ∃ b, cmdByte c.sysCmd k = some b ∧ classifySystemCommand c.sysCmd b = k) ∧
    (∀ b : Byte, 0xF0#8 ≤ b → (∀ k ∈ namedSysKinds, cmdByte c.sysCmd k ≠ some b) →
      classifySystemCommand c.sysCmd b = .other)

/-- R116, R110, R114, R115: the framer by the classes of byte 0. -/
def Obligations.FrameFollowsTheTables : Prop :=
  ∀ (c : Config) (b0 : Byte) (d1 : U7),
    (b0.getLsbD 7 = false → frame c b0 d1 = none) ∧
    (∀ k, classifyChannelVoice (hiNib b0) = some k → frame c b0 d1 = some (cvLength c k d1)) ∧
    (hiNib b0 = 15#4 → frame c b0 d1 = some (sysLength (classifySystemCommand c.sysCmd b0)))
end

