-- ==== Sys2Proof/Laws/PerInstr.lean ====
section
/-! SUPPORT. Statements made per instruction. RowMatch: what encodes an instruction matches the mask and
the match of the instruction's row in spec/opcode_table.json. -/

namespace Sys2Proof.Laws.RowMatch

open Sys2Proof.Machine

/-- The encoding of `i` matches the table row of `i`. -/
def Statement (i : Instr) : Prop := (tableRow i).matches (encode i) = true

/-- The mask of four high bits keeps the operation code alone. -/
theorem and_opMask (op k : Nib) (x0 x1 x2 : Byte) :
    commandWord op k x0 x1 x2 &&& 0xF0000000#32 = op.setWidth 32 <<< 28 := by
  unfold commandWord
  apply BitVec.eq_of_getLsbD_eq
  intro i hi
  interval_cases i <;> simp

/-- The mask of eight high bits keeps the operation code and the kind operand. -/
theorem and_opKMask (op k : Nib) (x0 x1 x2 : Byte) :
    commandWord op k x0 x1 x2 &&& 0xFF000000#32 = (op.setWidth 32 <<< 28) ||| (k.setWidth 32 <<< 24) := by
  unfold commandWord
  apply BitVec.eq_of_getLsbD_eq
  intro i hi
  interval_cases i <;> simp

/-- The mask 0xF0 keeps the high nibble. -/
theorem and_hiMask (h l : Nib) : nibbles h l &&& 0xF0#8 = h.setWidth 8 <<< 4 := by
  revert h l; decide

theorem noteOff (ch : Nib) (b1 b2 : Byte) : Statement (.noteOff ch b1 b2) := by
  simp [Statement, tableRow, encode, TableRow.matches, and_hiMask]

theorem noteOn (ch : Nib) (b1 b2 : Byte) : Statement (.noteOn ch b1 b2) := by
  simp [Statement, tableRow, encode, TableRow.matches, and_hiMask]

theorem polyphonicAftertouch (ch : Nib) (b1 b2 : Byte) : Statement (.polyphonicAftertouch ch b1 b2) := by
  simp [Statement, tableRow, encode, TableRow.matches, and_hiMask]

theorem controllerChange (ch : Nib) (b1 b2 : Byte) : Statement (.controllerChange ch b1 b2) := by
  simp [Statement, tableRow, encode, TableRow.matches, and_hiMask]

theorem programChange (ch : Nib) (b1 b2 : Byte) : Statement (.programChange ch b1 b2) := by
  simp [Statement, tableRow, encode, TableRow.matches, and_hiMask]

theorem channelAftertouch (ch : Nib) (b1 b2 : Byte) : Statement (.channelAftertouch ch b1 b2) := by
  simp [Statement, tableRow, encode, TableRow.matches, and_hiMask]

theorem pitchWheel (ch : Nib) (b1 b2 : Byte) : Statement (.pitchWheel ch b1 b2) := by
  simp [Statement, tableRow, encode, TableRow.matches, and_hiMask]

theorem sysEx (b1 b2 : Byte) : Statement (.sysEx b1 b2) := by
  simp [Statement, tableRow, encode, TableRow.matches]

theorem otherF1 (b1 b2 : Byte) : Statement (.otherF1 b1 b2) := by
  simp [Statement, tableRow, encode, TableRow.matches]

theorem songPosition (b1 b2 : Byte) : Statement (.songPosition b1 b2) := by
  simp [Statement, tableRow, encode, TableRow.matches]

theorem songSelect (b1 b2 : Byte) : Statement (.songSelect b1 b2) := by
  simp [Statement, tableRow, encode, TableRow.matches]

theorem otherF4 (b1 b2 : Byte) : Statement (.otherF4 b1 b2) := by
  simp [Statement, tableRow, encode, TableRow.matches]

theorem otherF5 (b1 b2 : Byte) : Statement (.otherF5 b1 b2) := by
  simp [Statement, tableRow, encode, TableRow.matches]

theorem tuneRequest (b1 b2 : Byte) : Statement (.tuneRequest b1 b2) := by
  simp [Statement, tableRow, encode, TableRow.matches]

theorem sysExEnd (b1 b2 : Byte) : Statement (.sysExEnd b1 b2) := by
  simp [Statement, tableRow, encode, TableRow.matches]

theorem timingClock (b1 b2 : Byte) : Statement (.timingClock b1 b2) := by
  simp [Statement, tableRow, encode, TableRow.matches]

theorem otherF9 (b1 b2 : Byte) : Statement (.otherF9 b1 b2) := by
  simp [Statement, tableRow, encode, TableRow.matches]

theorem startMsg (b1 b2 : Byte) : Statement (.startMsg b1 b2) := by
  simp [Statement, tableRow, encode, TableRow.matches]

theorem continueMsg (b1 b2 : Byte) : Statement (.continueMsg b1 b2) := by
  simp [Statement, tableRow, encode, TableRow.matches]

theorem stopMsg (b1 b2 : Byte) : Statement (.stopMsg b1 b2) := by
  simp [Statement, tableRow, encode, TableRow.matches]

theorem otherFD (b1 b2 : Byte) : Statement (.otherFD b1 b2) := by
  simp [Statement, tableRow, encode, TableRow.matches]

theorem activeSensing (b1 b2 : Byte) : Statement (.activeSensing b1 b2) := by
  simp [Statement, tableRow, encode, TableRow.matches]

theorem systemReset (b1 b2 : Byte) : Statement (.systemReset b1 b2) := by
  simp [Statement, tableRow, encode, TableRow.matches]

theorem notStatus (low : U7) (b1 b2 : Byte) : Statement (.notStatus low b1 b2) := by
  simp only [Statement, tableRow, encode, TableRow.matches]
  revert low; decide

theorem dec (b0 b1 b2 : Byte) : Statement (.dec b0 b1 b2) := by
  simp [Statement, tableRow, encode, TableRow.matches, and_opMask]

theorem encv (k : Nib) (channel byte1 byte2 : Byte) : Statement (.encv k channel byte1 byte2) := by
  simp [Statement, tableRow, encode, TableRow.matches, and_opMask]

theorem encs (k : Nib) (byte1 byte2 : Byte) : Statement (.encs k byte1 byte2) := by
  simp [Statement, tableRow, encode, TableRow.matches, and_opMask]

theorem pub : Statement .pub := by
  unfold Statement; decide

theorem clsv (n : Nib) : Statement (.clsv n) := by
  simp [Statement, tableRow, encode, TableRow.matches, and_opMask]

theorem clss (b : Byte) : Statement (.clss b) := by
  simp [Statement, tableRow, encode, TableRow.matches, and_opMask]

theorem frm (st d : Byte) : Statement (.frm st d) := by
  simp [Statement, tableRow, encode, TableRow.matches, and_opMask]

theorem reservedOp0 : Statement .reservedOp0 := by
  unfold Statement; decide

theorem reservedOp8 : Statement .reservedOp8 := by
  unfold Statement; decide

theorem reservedOp9 : Statement .reservedOp9 := by
  unfold Statement; decide

theorem reservedOp10 : Statement .reservedOp10 := by
  unfold Statement; decide

theorem reservedOp11 : Statement .reservedOp11 := by
  unfold Statement; decide

theorem reservedOp12 : Statement .reservedOp12 := by
  unfold Statement; decide

theorem reservedOp13 : Statement .reservedOp13 := by
  unfold Statement; decide

theorem reservedOp14 : Statement .reservedOp14 := by
  unfold Statement; decide

theorem reservedOp15 : Statement .reservedOp15 := by
  unfold Statement; decide

theorem encvIllegalK0 : Statement .encvIllegalK0 := by
  unfold Statement; decide

theorem encvIllegalK1 : Statement .encvIllegalK1 := by
  unfold Statement; decide

theorem encvIllegalK2 : Statement .encvIllegalK2 := by
  unfold Statement; decide

theorem encvIllegalK3 : Statement .encvIllegalK3 := by
  unfold Statement; decide

theorem encvIllegalK4 : Statement .encvIllegalK4 := by
  unfold Statement; decide

theorem encvIllegalK5 : Statement .encvIllegalK5 := by
  unfold Statement; decide

theorem encvIllegalK6 : Statement .encvIllegalK6 := by
  unfold Statement; decide

theorem encvIllegalK7 : Statement .encvIllegalK7 := by
  unfold Statement; decide

theorem encvIllegalK15 : Statement .encvIllegalK15 := by
  unfold Statement; decide

theorem buildNoteOn (note velocity channel : Byte) : Statement (.buildNoteOn note velocity channel) := by
  simp [Statement, tableRow, encode, TableRow.matches, and_opKMask]

theorem buildNoteOff (note velocity channel : Byte) : Statement (.buildNoteOff note velocity channel) := by
  simp [Statement, tableRow, encode, TableRow.matches, and_opKMask]

theorem buildProgramChange (program channel : Byte) : Statement (.buildProgramChange program channel) := by
  simp [Statement, tableRow, encode, TableRow.matches, and_opKMask]

theorem buildControllerChange (control value channel : Byte) : Statement (.buildControllerChange control value channel) := by
  simp [Statement, tableRow, encode, TableRow.matches, and_opKMask]

end Sys2Proof.Laws.RowMatch
end

