-- ==== Sys2Proof/Tests/Slice0.lean ====
section
/-! SUPPORT. The tests of the model: an ill-formed term for the one check of WellFormed, words written from
30_encoding and 95_test_vectors for the decoder, one step per instruction with the result 95_test_vectors
gives (V-… is the vector), and for every statement with hypotheses a concrete state and operands that meet
them. -/

namespace Sys2Proof.Tests

open Sys2Proof.Machine Sys2Proof.Claims

/-- `EV0` of 95_test_vectors Part 2. -/
def ev0 : Event := ⟨true, 0x90#8, 1#7, 2#7, true, 3#2⟩

/-- A machine that holds an event, with the default configuration. -/
def holding (e : Event) : State :=
  { cfg := defaultConfig, ev := e, cmds := [], rsp := none, busPort := none, bus := [], free := 7 }

/-- A machine that holds an event of the given byte 0. -/
def voice (b0 : Byte) : State := holding { ev0 with raw0 := b0 }

/-- A machine that holds no event. -/
def empty : State := holding { ev0 with evv := false }

/-- The event after a step that went on. -/
def evOf : Host.Outcome State Fault Refusal → Option Event
  | .next t => some t.ev
  | .fault _ => none
  | .refused _ => none

/-- The response of a step, its seven fields in the order of 95_test_vectors. -/
def rspOf : Host.Outcome State Fault Refusal → Option Response
  | .next t => t.rsp
  | .fault _ => none
  | .refused _ => none

/-- The bus history after a step. -/
def busOf : Host.Outcome State Fault Refusal → Option (List Publication)
  | .next t => some t.bus
  | .fault _ => none
  | .refused _ => none

/-- The bus port after a step. -/
def wireAfter : Host.Outcome State Fault Refusal → Option BusWire
  | .next t => t.busPort
  | .fault _ => none
  | .refused _ => none

/-- One step from `s` on a command word. -/
def onWord (w : Word) (s : State) : Host.Outcome State Fault Refusal := step { s with cmds := [.word w] }

/-- One step from `s` on a packet. -/
def onPacket (b0 b1 b2 : Byte) (s : State) : Host.Outcome State Fault Refusal :=
  step { s with cmds := [.packet b0 b1 b2] }

/-! ### WellFormed -/

/-- An ENCV whose nibble names no kind is refused: 7, 0, 15 (30_encoding R96). -/
theorem test_encv_illFormed :
    Instr.wellFormed (.encv 7#4 0#8 0#8 0#8) = false ∧ Instr.wellFormed (.encv 0#4 0#8 0#8 0#8) = false ∧
    Instr.wellFormed (.encv 15#4 0#8 0#8 0#8) = false ∧
    Instr.wellFormed (.encv 8#4 0#8 0#8 0#8) = true ∧
    Instr.wellFormed (.encv 14#4 0#8 0#8 0#8) = true := by decide

/-! ### Decode -/

/-- 30_encoding R88: byte 0 by its high nibble, one packet per row. -/
theorem test_decode_channelVoice :
    decode (.packet 0x83#8 0x3C#8 0x00#8) = .noteOff 3#4 0x3C#8 0x00#8 ∧
    decode (.packet 0x9F#8 0x3C#8 0x64#8) = .noteOn 15#4 0x3C#8 0x64#8 ∧
    decode (.packet 0xA5#8 0x40#8 0x7F#8) = .polyphonicAftertouch 5#4 0x40#8 0x7F#8 ∧
    decode (.packet 0xB1#8 0x07#8 0x50#8) = .controllerChange 1#4 0x07#8 0x50#8 ∧
    decode (.packet 0xC2#8 0x05#8 0x00#8) = .programChange 2#4 0x05#8 0x00#8 ∧
    decode (.packet 0xD4#8 0x55#8 0x00#8) = .channelAftertouch 4#4 0x55#8 0x00#8 ∧
    decode (.packet 0xE0#8 0x00#8 0x40#8) = .pitchWheel 0#4 0x00#8 0x40#8 := by decide

/-- 30_encoding R89: byte 0 as a whole, one packet per row. -/
theorem test_decode_system :
    decode (.packet 0xF0#8 1#8 2#8) = .sysEx 1#8 2#8 ∧
    decode (.packet 0xF1#8 1#8 2#8) = .otherF1 1#8 2#8 ∧
    decode (.packet 0xF2#8 1#8 2#8) = .songPosition 1#8 2#8 ∧
    decode (.packet 0xF3#8 1#8 2#8) = .songSelect 1#8 2#8 ∧
    decode (.packet 0xF4#8 1#8 2#8) = .otherF4 1#8 2#8 ∧
    decode (.packet 0xF5#8 1#8 2#8) = .otherF5 1#8 2#8 ∧
    decode (.packet 0xF6#8 1#8 2#8) = .tuneRequest 1#8 2#8 ∧
    decode (.packet 0xF7#8 1#8 2#8) = .sysExEnd 1#8 2#8 ∧
    decode (.packet 0xF8#8 1#8 2#8) = .timingClock 1#8 2#8 ∧
    decode (.packet 0xF9#8 1#8 2#8) = .otherF9 1#8 2#8 ∧
    decode (.packet 0xFA#8 1#8 2#8) = .startMsg 1#8 2#8 ∧
    decode (.packet 0xFB#8 1#8 2#8) = .continueMsg 1#8 2#8 ∧
    decode (.packet 0xFC#8 1#8 2#8) = .stopMsg 1#8 2#8 ∧
    decode (.packet 0xFD#8 1#8 2#8) = .otherFD 1#8 2#8 ∧
    decode (.packet 0xFE#8 1#8 2#8) = .activeSensing 1#8 2#8 ∧
    decode (.packet 0xFF#8 1#8 2#8) = .systemReset 1#8 2#8 := by decide

/-- 30_encoding R90: the ends of the range of bytes that spell no message. -/
theorem test_decode_notStatus :
    decode (.packet 0x00#8 0x90#8 0x64#8) = .notStatus 0#7 0x90#8 0x64#8 ∧
    decode (.packet 0x7F#8 0xFF#8 0xFF#8) = .notStatus 0x7F#7 0xFF#8 0xFF#8 := by decide

/-- 30_encoding R92, R93, R104: the seven operations, each field with a value of its own. -/
theorem test_decode_operations :
    decode (.word 0x10903C64#32) = .dec 0x90#8 0x3C#8 0x64#8 ∧
    decode (.word 0x291FC8FF#32) = .encv 9#4 0x1F#8 0xC8#8 0xFF#8 ∧
    decode (.word 0x32001002#32) = .encs 2#4 0x10#8 0x02#8 ∧
    decode (.word 0x40000000#32) = .pub ∧
    decode (.word 0x59000000#32) = .clsv 9#4 ∧
    decode (.word 0x60F80000#32) = .clss 0xF8#8 ∧
    decode (.word 0x70B16000#32) = .frm 0xB1#8 0x60#8 := by decide

/-- 30_encoding R94: junk in the fields an operation does not use (V-S17, 2.1, 2.9). -/
theorem test_decode_ignored :
    decode (.word 0x38AB0000#32) = .encs 8#4 0#8 0#8 ∧ decode (.word 0x57FFFFFF#32) = .clsv 7#4 ∧
    decode (.word 0x4FFFFFFF#32) = .pub := by decide

/-- 30_encoding R95, 95_test_vectors 2.10: the nine reserved operation codes. -/
theorem test_decode_reserved :
    decode (.word 0x00000000#32) = .reservedOp0 ∧ decode (.word 0x0FFFFFFF#32) = .reservedOp0 ∧
    decode (.word 0x80000000#32) = .reservedOp8 ∧ decode (.word 0x90903C64#32) = .reservedOp9 ∧
    decode (.word 0xA0000001#32) = .reservedOp10 ∧ decode (.word 0xB0000001#32) = .reservedOp11 ∧
    decode (.word 0xC0000001#32) = .reservedOp12 ∧ decode (.word 0xD0000001#32) = .reservedOp13 ∧
    decode (.word 0xE0000001#32) = .reservedOp14 ∧ decode (.word 0xFFFFFFFF#32) = .reservedOp15 := by
  decide

/-- 30_encoding R96, R106: ENCV with each nibble that names no kind; 8 and 14 name one. -/
theorem test_decode_encvIllegal :
    decode (.word 0x20000000#32) = .encvIllegalK0 ∧ decode (.word 0x21000001#32) = .encvIllegalK1 ∧
    decode (.word 0x22000001#32) = .encvIllegalK2 ∧ decode (.word 0x23000001#32) = .encvIllegalK3 ∧
    decode (.word 0x24000001#32) = .encvIllegalK4 ∧ decode (.word 0x25000001#32) = .encvIllegalK5 ∧
    decode (.word 0x26000001#32) = .encvIllegalK6 ∧ decode (.word 0x27000000#32) = .encvIllegalK7 ∧
    decode (.word 0x2F123456#32) = .encvIllegalK15 ∧
    decode (.word 0x28033C00#32) = .encv 8#4 3#8 0x3C#8 0#8 ∧
    decode (.word 0x2E000040#32) = .encv 14#4 0#8 0#8 0x40#8 := by decide

/-- 42_encode R168 to R171: the words of the pseudo-operations, and that each is read as its ENCV. -/
theorem test_decode_pseudo :
    encode (.buildNoteOn 60#8 100#8 0#8) = .word 0x29003C64#32 ∧
    encode (.buildNoteOff 60#8 0#8 0#8) = .word 0x28003C00#32 ∧
    encode (.buildProgramChange 5#8 2#8) = .word 0x2C020500#32 ∧
    encode (.buildControllerChange 7#8 80#8 1#8) = .word 0x2B010750#32 ∧
    decode (.word 0x29003C64#32) = .encv 9#4 0#8 60#8 100#8 ∧
    decode (.word 0x28003C00#32) = .encv 8#4 0#8 60#8 0#8 ∧
    decode (.word 0x2C020500#32) = .encv 12#4 2#8 5#8 0#8 ∧
    decode (.word 0x2B010750#32) = .encv 11#4 1#8 7#8 80#8 := by decide

/-- The words of the opcode table: a row of 8 bits is byte 0, a row of 32 bits a command word. -/
theorem test_decodeTableWord :
    decodeTableWord 8 0x90 = some (.noteOn 0#4 0#8 0#8) ∧
    decodeTableWord 8 0xF8 = some (.timingClock 0#8 0#8) ∧
    decodeTableWord 8 0 = some (.notStatus 0#7 0#8 0#8) ∧
    decodeTableWord 32 0x10000000 = some (.dec 0#8 0#8 0#8) ∧
    decodeTableWord 32 0x90000000 = some .reservedOp9 := by decide

/-- `withFetchWord` has the very next step run the word, from reset too. -/
theorem test_withFetchWord :
    evOf (step (State.reset.withFetchWord 32 0x10903C64)) = some ⟨true, 0x90#8, 60#7, 100#7, true, 3#2⟩ ∧
    rspOf (step (State.reset.withFetchWord 8 0xF8)) = some ⟨0#2, 0#4, 6#4, true, 1#2, false, 0#3⟩ := by decide

/-! ### One step: MIDI messages (95_test_vectors 2.4) -/

/-- V-D1. -/
theorem test_noteOff :
    evOf (onPacket 0x83#8 0x3C#8 0x00#8 (holding ev0)) = some ⟨true, 0x83#8, 60#7, 0#7, true, 3#2⟩ ∧
    rspOf (onPacket 0x83#8 0x3C#8 0x00#8 (holding ev0)) =
      some ⟨0#2, 8#4, 0#4, true, 3#2, false, 0#3⟩ := by decide

/-- V-D31. -/
theorem test_noteOn :
    evOf (onPacket 0x9F#8 0xFF#8 0xFF#8 (holding ev0)) = some ⟨true, 0x9F#8, 127#7, 127#7, true, 3#2⟩ ∧
    rspOf (onPacket 0x9F#8 0xFF#8 0xFF#8 (holding ev0)) =
      some ⟨0#2, 9#4, 0#4, true, 3#2, false, 0#3⟩ := by decide

/-- V-D3. -/
theorem test_polyphonicAftertouch :
    evOf (onPacket 0xA5#8 0x40#8 0x7F#8 (holding ev0)) = some ⟨true, 0xA5#8, 64#7, 127#7, true, 3#2⟩ ∧
    rspOf (onPacket 0xA5#8 0x40#8 0x7F#8 (holding ev0)) =
      some ⟨0#2, 10#4, 0#4, true, 3#2, false, 0#3⟩ := by decide

/-- V-D37. -/
theorem test_controllerChange_at_threshold :
    evOf (onPacket 0xB0#8 0x60#8 0x01#8 (holding ev0)) = some ⟨true, 0xB0#8, 96#7, 1#7, true, 2#2⟩ ∧
    rspOf (onPacket 0xB0#8 0x60#8 0x01#8 (holding ev0)) =
      some ⟨0#2, 11#4, 0#4, true, 2#2, false, 0#3⟩ := by decide

/-- V-D42. -/
theorem test_controllerChange_masked_local :
    evOf (onPacket 0xB0#8 0xFA#8 0x01#8 (holding ev0)) = some ⟨true, 0xB0#8, 122#7, 1#7, true, 3#2⟩ ∧
    rspOf (onPacket 0xB0#8 0xFA#8 0x01#8 (holding ev0)) =
      some ⟨0#2, 11#4, 0#4, true, 3#2, false, 0#3⟩ := by decide

/-- V-D45. -/
theorem test_programChange :
    evOf (onPacket 0xC0#8 0x05#8 0xFF#8 (holding ev0)) = some ⟨true, 0xC0#8, 5#7, 127#7, true, 2#2⟩ ∧
    rspOf (onPacket 0xC0#8 0x05#8 0xFF#8 (holding ev0)) =
      some ⟨0#2, 12#4, 0#4, true, 2#2, false, 0#3⟩ := by decide

/-- V-D46. -/
theorem test_channelAftertouch :
    evOf (onPacket 0xDF#8 0xFF#8 0x33#8 (holding ev0)) = some ⟨true, 0xDF#8, 127#7, 51#7, false, 0#2⟩ ∧
    rspOf (onPacket 0xDF#8 0xFF#8 0x33#8 (holding ev0)) =
      some ⟨0#2, 13#4, 0#4, false, 0#2, false, 0#3⟩ := by decide

/-- V-D35. -/
theorem test_pitchWheel :
    evOf (onPacket 0xE3#8 0x00#8 0x01#8 (holding ev0)) = some ⟨true, 0xE3#8, 0#7, 1#7, true, 3#2⟩ ∧
    rspOf (onPacket 0xE3#8 0x00#8 0x01#8 (holding ev0)) =
      some ⟨0#2, 14#4, 0#4, true, 3#2, false, 0#3⟩ := by decide

/-- V-D10. -/
theorem test_sysEx :
    evOf (onPacket 0xF0#8 0x7E#8 0x00#8 (holding ev0)) = some ⟨true, 0xF0#8, 126#7, 0#7, false, 0#2⟩ ∧
    rspOf (onPacket 0xF0#8 0x7E#8 0x00#8 (holding ev0)) =
      some ⟨0#2, 0#4, 1#4, false, 0#2, false, 0#3⟩ := by decide

/-- V-D23. -/
theorem test_otherF1 :
    evOf (onPacket 0xF1#8 0x12#8 0x34#8 (holding ev0)) = some ⟨true, 0xF1#8, 18#7, 52#7, true, 1#2⟩ ∧
    rspOf (onPacket 0xF1#8 0x12#8 0x34#8 (holding ev0)) =
      some ⟨0#2, 0#4, 12#4, true, 1#2, false, 0#3⟩ := by decide

/-- V-D47. -/
theorem test_songPosition :
    evOf (onPacket 0xF2#8 0x7F#8 0x7F#8 (holding ev0)) = some ⟨true, 0xF2#8, 127#7, 127#7, true, 3#2⟩ ∧
    rspOf (onPacket 0xF2#8 0x7F#8 0x7F#8 (holding ev0)) =
      some ⟨0#2, 0#4, 2#4, true, 3#2, false, 0#3⟩ := by decide

/-- V-D12. -/
theorem test_songSelect :
    evOf (onPacket 0xF3#8 0x05#8 0x00#8 (holding ev0)) = some ⟨true, 0xF3#8, 5#7, 0#7, true, 2#2⟩ ∧
    rspOf (onPacket 0xF3#8 0x05#8 0x00#8 (holding ev0)) =
      some ⟨0#2, 0#4, 3#4, true, 2#2, false, 0#3⟩ := by decide

/-- V-D22. -/
theorem test_otherF4 :
    evOf (onPacket 0xF4#8 0x00#8 0x00#8 (holding ev0)) = some ⟨true, 0xF4#8, 0#7, 0#7, true, 1#2⟩ ∧
    rspOf (onPacket 0xF4#8 0x00#8 0x00#8 (holding ev0)) =
      some ⟨0#2, 0#4, 12#4, true, 1#2, false, 0#3⟩ := by decide

/-- V-D24. -/
theorem test_otherF5 :
    evOf (onPacket 0xF5#8 0x00#8 0x00#8 (holding ev0)) = some ⟨true, 0xF5#8, 0#7, 0#7, true, 1#2⟩ ∧
    rspOf (onPacket 0xF5#8 0x00#8 0x00#8 (holding ev0)) =
      some ⟨0#2, 0#4, 12#4, true, 1#2, false, 0#3⟩ := by decide

/-- V-D13. -/
theorem test_tuneRequest :
    evOf (onPacket 0xF6#8 0x00#8 0x00#8 (holding ev0)) = some ⟨true, 0xF6#8, 0#7, 0#7, true, 1#2⟩ ∧
    rspOf (onPacket 0xF6#8 0x00#8 0x00#8 (holding ev0)) =
      some ⟨0#2, 0#4, 4#4, true, 1#2, false, 0#3⟩ := by decide

/-- V-D14. -/
theorem test_sysExEnd :
    evOf (onPacket 0xF7#8 0x00#8 0x00#8 (holding ev0)) = some ⟨true, 0xF7#8, 0#7, 0#7, true, 1#2⟩ ∧
    rspOf (onPacket 0xF7#8 0x00#8 0x00#8 (holding ev0)) =
      some ⟨0#2, 0#4, 5#4, true, 1#2, false, 0#3⟩ := by decide

/-- V-D20. -/
theorem test_timingClock :
    evOf (onPacket 0xF8#8 0xAA#8 0xBB#8 (holding ev0)) = some ⟨true, 0xF8#8, 42#7, 59#7, true, 1#2⟩ ∧
    rspOf (onPacket 0xF8#8 0xAA#8 0xBB#8 (holding ev0)) =
      some ⟨0#2, 0#4, 6#4, true, 1#2, false, 0#3⟩ := by decide

/-- V-D25. -/
theorem test_otherF9 :
    evOf (onPacket 0xF9#8 0x00#8 0x00#8 (holding ev0)) = some ⟨true, 0xF9#8, 0#7, 0#7, true, 1#2⟩ ∧
    rspOf (onPacket 0xF9#8 0x00#8 0x00#8 (holding ev0)) =
      some ⟨0#2, 0#4, 12#4, true, 1#2, false, 0#3⟩ := by decide

/-- V-D16. -/
theorem test_startMsg :
    evOf (onPacket 0xFA#8 0x00#8 0x00#8 (holding ev0)) = some ⟨true, 0xFA#8, 0#7, 0#7, true, 1#2⟩ ∧
    rspOf (onPacket 0xFA#8 0x00#8 0x00#8 (holding ev0)) =
      some ⟨0#2, 0#4, 7#4, true, 1#2, false, 0#3⟩ := by decide

/-- V-D17. -/
theorem test_continueMsg :
    evOf (onPacket 0xFB#8 0x00#8 0x00#8 (holding ev0)) = some ⟨true, 0xFB#8, 0#7, 0#7, true, 1#2⟩ ∧
    rspOf (onPacket 0xFB#8 0x00#8 0x00#8 (holding ev0)) =
      some ⟨0#2, 0#4, 8#4, true, 1#2, false, 0#3⟩ := by decide

/-- V-D18. -/
theorem test_stopMsg :
    evOf (onPacket 0xFC#8 0x00#8 0x00#8 (holding ev0)) = some ⟨true, 0xFC#8, 0#7, 0#7, true, 1#2⟩ ∧
    rspOf (onPacket 0xFC#8 0x00#8 0x00#8 (holding ev0)) =
      some ⟨0#2, 0#4, 9#4, true, 1#2, false, 0#3⟩ := by decide

/-- V-D26. -/
theorem test_otherFD :
    evOf (onPacket 0xFD#8 0x00#8 0x00#8 (holding ev0)) = some ⟨true, 0xFD#8, 0#7, 0#7, true, 1#2⟩ ∧
    rspOf (onPacket 0xFD#8 0x00#8 0x00#8 (holding ev0)) =
      some ⟨0#2, 0#4, 12#4, true, 1#2, false, 0#3⟩ := by decide

/-- V-D19. -/
theorem test_activeSensing :
    evOf (onPacket 0xFE#8 0x00#8 0x00#8 (holding ev0)) = some ⟨true, 0xFE#8, 0#7, 0#7, true, 1#2⟩ ∧
    rspOf (onPacket 0xFE#8 0x00#8 0x00#8 (holding ev0)) =
      some ⟨0#2, 0#4, 10#4, true, 1#2, false, 0#3⟩ := by decide

/-- V-D21. -/
theorem test_systemReset :
    evOf (onPacket 0xFF#8 0x00#8 0x00#8 (holding ev0)) = some ⟨true, 0xFF#8, 0#7, 0#7, true, 1#2⟩ ∧
    rspOf (onPacket 0xFF#8 0x00#8 0x00#8 (holding ev0)) =
      some ⟨0#2, 0#4, 11#4, true, 1#2, false, 0#3⟩ := by decide

/-- V-D50: the old event is gone, a status byte in byte 1 does not help. -/
theorem test_notStatus :
    (evOf (onPacket 0x3C#8 0x90#8 0x64#8 (holding ev0))).map Event.evv = some false ∧
    rspOf (onPacket 0x3C#8 0x90#8 0x64#8 (holding ev0)) = some ⟨1#2, 0#4, 0#4, false, 0#2, false, 0#3⟩ := by decide

/-! ### One step: the operations -/

/-- V-D30: bit 7 of both data operands is stripped. -/
theorem test_dec :
    evOf (onWord 0x1090BCE4#32 empty) = some ⟨true, 0x90#8, 60#7, 100#7, true, 3#2⟩ := by decide

/-- V-D49: the largest byte that is no status byte. -/
theorem test_dec_notStatus :
    (evOf (onWord 0x107FFFFF#32 (holding ev0))).map Event.evv = some false ∧
    rspOf (onWord 0x107FFFFF#32 (holding ev0)) = some ⟨1#2, 0#4, 0#4, false, 0#2, false, 0#3⟩ := by decide

/-- V-E4: channel 31, data 200 and 255 are cut, not refused. -/
theorem test_encv :
    evOf (onWord 0x291FC8FF#32 (holding ev0)) = some ⟨true, 0x9F#8, 72#7, 127#7, true, 3#2⟩ ∧
    rspOf (onWord 0x291FC8FF#32 (holding ev0)) = some ⟨0#2, 9#4, 0#4, true, 3#2, false, 0#3⟩ := by decide

/-- V-E9: the length of a ControllerChange is taken from the masked operand. -/
theorem test_encv_controllerChange :
    evOf (onWord 0x2B00FA00#32 (holding ev0)) = some ⟨true, 0xB0#8, 122#7, 0#7, true, 3#2⟩ := by decide

/-- V-S4. -/
theorem test_encs :
    evOf (onWord 0x3200FFFF#32 empty) = some ⟨true, 0xF2#8, 127#7, 127#7, true, 3#2⟩ ∧
    rspOf (onWord 0x3200FFFF#32 empty) = some ⟨0#2, 0#4, 2#4, true, 3#2, false, 0#3⟩ := by decide

/-- V-S1: unknown length on encode too. -/
theorem test_encs_sysEx :
    evOf (onWord 0x30007E00#32 empty) = some ⟨true, 0xF0#8, 126#7, 0#7, false, 0#2⟩ := by decide

/-- 95_test_vectors 2.9, event V-D45: no second field although `RAW2` = 127. -/
theorem test_pub :
    busOf (onWord 0x40000000#32 (holding ⟨true, 0xC0#8, 5#7, 127#7, true, 2#2⟩)) =
      some [⟨.programChange, [(.program, 5), (.channel, 0)]⟩] ∧
    wireAfter (onWord 0x40000000#32 (holding ⟨true, 0xC0#8, 5#7, 127#7, true, 2#2⟩)) =
      some ⟨12#4, 5#14, 0#7, false, 0#4⟩ ∧
    rspOf (onWord 0x40000000#32 (holding ⟨true, 0xC0#8, 5#7, 127#7, true, 2#2⟩)) =
      some ⟨0#2, 12#4, 0#4, true, 2#2, true, 0#3⟩ := by decide

/-- 95_test_vectors 2.9: SysExEnd gives a diagnostic; without an event PUB faults. -/
theorem test_pub_system :
    rspOf (onWord 0x40000000#32 (holding ⟨true, 0xF7#8, 0#7, 0#7, true, 1#2⟩)) =
      some ⟨0#2, 0#4, 5#4, true, 1#2, false, 3#3⟩ ∧
    busOf (onWord 0x40000000#32 (holding ⟨true, 0xF7#8, 0#7, 0#7, true, 1#2⟩)) = some [] ∧
    rspOf (onWord 0x4FFFFFFF#32 empty) = some ⟨3#2, 0#4, 0#4, false, 0#2, false, 0#3⟩ := by decide

/-- 95_test_vectors 2.1: CLSV at the ends of its range. -/
theorem test_clsv :
    rspOf (onWord 0x57FFFFFF#32 (holding ev0)) = some ⟨1#2, 0#4, 0#4, false, 0#2, false, 0#3⟩ ∧
    rspOf (onWord 0x58000000#32 (holding ev0)) = some ⟨0#2, 8#4, 0#4, false, 0#2, false, 0#3⟩ ∧
    rspOf (onWord 0x5E000000#32 (holding ev0)) = some ⟨0#2, 14#4, 0#4, false, 0#2, false, 0#3⟩ ∧
    rspOf (onWord 0x5F000000#32 (holding ev0)) = some ⟨1#2, 0#4, 0#4, false, 0#2, false, 0#3⟩ ∧
    evOf (onWord 0x5F000000#32 (holding ev0)) = some ev0 := by decide

/-- 95_test_vectors 2.2: CLSS at both sides of 0xF0, and a reserved byte. -/
theorem test_clss :
    rspOf (onWord 0x60EF0000#32 (holding ev0)) = some ⟨0#2, 0#4, 0#4, false, 0#2, false, 0#3⟩ ∧
    rspOf (onWord 0x60F00000#32 (holding ev0)) = some ⟨0#2, 0#4, 1#4, false, 0#2, false, 0#3⟩ ∧
    rspOf (onWord 0x60F40000#32 (holding ev0)) = some ⟨0#2, 0#4, 12#4, true, 1#2, false, 0#3⟩ := by decide

/-- V-F12, V-F13, V-F17: the data byte is masked before the comparison. -/
theorem test_frm :
    rspOf (onWord 0x70B0E000#32 (holding ev0)) = some ⟨0#2, 11#4, 0#4, true, 2#2, false, 0#3⟩ ∧
    rspOf (onWord 0x70B0FA00#32 (holding ev0)) = some ⟨0#2, 11#4, 0#4, true, 3#2, false, 0#3⟩ ∧
    rspOf (onWord 0x70DF7F00#32 (holding ev0)) = some ⟨0#2, 13#4, 0#4, false, 0#2, false, 0#3⟩ := by decide

/-- V-F27: FRM never clears EVV. -/
theorem test_frm_notStatus :
    rspOf (onWord 0x703C6400#32 (holding ev0)) = some ⟨1#2, 0#4, 0#4, false, 0#2, false, 0#3⟩ ∧
    evOf (onWord 0x703C6400#32 (holding ev0)) = some ev0 := by decide

/-- 95_test_vectors 2.10: the reserved operation codes. -/
theorem test_reserved :
    rspOf (onWord 0x00000000#32 (holding ev0)) = some ⟨2#2, 0#4, 0#4, false, 0#2, false, 0#3⟩ ∧
    rspOf (onWord 0x80000000#32 (holding ev0)) = some ⟨2#2, 0#4, 0#4, false, 0#2, false, 0#3⟩ ∧
    rspOf (onWord 0x90903C64#32 (holding ev0)) = some ⟨2#2, 0#4, 0#4, false, 0#2, false, 0#3⟩ ∧
    rspOf (onWord 0xA0000000#32 (holding ev0)) = some ⟨2#2, 0#4, 0#4, false, 0#2, false, 0#3⟩ ∧
    rspOf (onWord 0xB0000000#32 (holding ev0)) = some ⟨2#2, 0#4, 0#4, false, 0#2, false, 0#3⟩ ∧
    rspOf (onWord 0xC0000000#32 (holding ev0)) = some ⟨2#2, 0#4, 0#4, false, 0#2, false, 0#3⟩ ∧
    rspOf (onWord 0xD0000000#32 (holding ev0)) = some ⟨2#2, 0#4, 0#4, false, 0#2, false, 0#3⟩ ∧
    rspOf (onWord 0xE0000000#32 (holding ev0)) = some ⟨2#2, 0#4, 0#4, false, 0#2, false, 0#3⟩ ∧
    rspOf (onWord 0xF0000000#32 (holding ev0)) = some ⟨2#2, 0#4, 0#4, false, 0#2, false, 0#3⟩ ∧
    evOf (onWord 0xF0000000#32 (holding ev0)) = some ev0 := by decide

/-- V-E16 to V-E19: ENCV with a nibble that names no kind. -/
theorem test_encvIllegal :
    rspOf (onWord 0x20000000#32 (holding ev0)) = some ⟨2#2, 0#4, 0#4, false, 0#2, false, 0#3⟩ ∧
    rspOf (onWord 0x21000000#32 (holding ev0)) = some ⟨2#2, 0#4, 0#4, false, 0#2, false, 0#3⟩ ∧
    rspOf (onWord 0x22000000#32 (holding ev0)) = some ⟨2#2, 0#4, 0#4, false, 0#2, false, 0#3⟩ ∧
    rspOf (onWord 0x23000000#32 (holding ev0)) = some ⟨2#2, 0#4, 0#4, false, 0#2, false, 0#3⟩ ∧
    rspOf (onWord 0x24000000#32 (holding ev0)) = some ⟨2#2, 0#4, 0#4, false, 0#2, false, 0#3⟩ ∧
    rspOf (onWord 0x25000000#32 (holding ev0)) = some ⟨2#2, 0#4, 0#4, false, 0#2, false, 0#3⟩ ∧
    rspOf (onWord 0x26000000#32 (holding ev0)) = some ⟨2#2, 0#4, 0#4, false, 0#2, false, 0#3⟩ ∧
    rspOf (onWord 0x27000000#32 (holding ev0)) = some ⟨2#2, 0#4, 0#4, false, 0#2, false, 0#3⟩ ∧
    rspOf (onWord 0x2F123456#32 (holding ev0)) = some ⟨2#2, 0#4, 0#4, false, 0#2, false, 0#3⟩ ∧
    evOf (onWord 0x2F123456#32 (holding ev0)) = some ev0 := by decide

/-- 95_test_vectors 2.6: the events of the pseudo-operations. -/
theorem test_builders :
    evOf (exec (.buildNoteOn 60#8 100#8 0#8) (holding ev0)) =
      some ⟨true, 0x90#8, 60#7, 100#7, true, 3#2⟩ ∧
    evOf (exec (.buildNoteOff 60#8 0#8 0#8) (holding ev0)) =
      some ⟨true, 0x80#8, 60#7, 0#7, true, 3#2⟩ ∧
    evOf (exec (.buildProgramChange 5#8 2#8) (holding ev0)) =
      some ⟨true, 0xC2#8, 5#7, 0#7, true, 2#2⟩ ∧
    evOf (exec (.buildControllerChange 7#8 80#8 1#8) (holding ev0)) =
      some ⟨true, 0xB1#8, 7#7, 80#7, true, 3#2⟩ := by decide

/-- 95_test_vectors 2.8: the views of a SongPosition, and none while EVV = 0. -/
theorem test_views :
    portImage (holding ⟨true, 0xF2#8, 16#7, 2#7, true, 3#2⟩) =
      some ⟨0xF2#8, 16#7, 2#7, true, 3#2, 0#4, 272#14, 0#4, 2#4⟩ ∧
    portImage (holding ⟨true, 0xEF#8, 127#7, 127#7, true, 3#2⟩) =
      some ⟨0xEF#8, 127#7, 127#7, true, 3#2, 15#4, 16383#14, 14#4, 0#4⟩ ∧
    wireBytes ⟨true, 0xC2#8, 5#7, 0#7, true, 2#2⟩ = some [0xC2#8, 0x05#8] ∧ wireBytes empty.ev = none ∧
    portImage empty = none := by decide

/-! ### Witnesses: the hypotheses of the statements can be met -/

/-- A well-formed ENCV at each end of the range of its nibble, and a row of bytes. -/
theorem witness_DecodeEncodeRoundTrip :
    Instr.wellFormed (.encv 8#4 0xFF#8 0#8 0xFF#8) = true ∧ Instr.isPseudo (.encv 8#4 0xFF#8 0#8 0xFF#8) = false ∧
    Instr.wellFormed (.encv 14#4 0#8 0xFF#8 0#8) = true ∧ Instr.isPseudo (.encv 14#4 0#8 0xFF#8 0#8) = false ∧
    Instr.wellFormed (.notStatus 0x7F#7 0#8 0#8) = true ∧ Instr.isPseudo (.notStatus 0x7F#7 0#8 0#8) = false := by decide

/-- The default configuration is lawful: PseudoOperationsExpand, TimingClockUnderEveryTable,
CommandByteIsTheInverse. -/
theorem witness_defaultConfig_wf :
    (holding ev0).cfg.Wf := by decide

/-- A named kind, and a command byte of no named kind. -/
theorem witness_CommandByteIsTheInverse :
    SysKind.sysEx ∈ namedSysKinds ∧ SysKind.systemReset ∈ namedSysKinds ∧ 0xF0#8 ≤ 0xF1#8 ∧
    ∀ k ∈ namedSysKinds, cmdByte defaultConfig.sysCmd k ≠ some 0xF1#8 := by decide

/-- The command bytes of R112: SystemMessagesWithData, OneByteSystemMessages, ReservedBytesAreOther,
DecKeepsDataChannelAndLength. -/
theorem witness_midi1Table :
    (holding ev0).cfg.sysCmd = midi1Table := by decide

/-- The two ends of the range of kind nibbles: also EncvBuildsTheEvent, EncodeThenDecodeRoundTrip.
-/
theorem witness_OperationCodesSelectTheOperation :
    8#4 ≤ 8#4 ∧ 8#4 ≤ 14#4 ∧ 8#4 ≤ 14#4 ∧ 14#4 ≤ 14#4 := by decide

/-- The nibbles next to the range: also EncvBuildsTheEvent, VoiceTableAndInverse. -/
theorem witness_EncvWithoutKindIsIllegal :
    (7#4 < 8#4 ∨ 14#4 < 7#4) ∧ (15#4 < 8#4 ∨ 14#4 < 15#4) := by decide

/-- A word that matches two rows, the ENCV row and one with a longer mask. -/
theorem witness_DecoderTakesTheLongestMask :
    Instr.isPseudo (.encv 8#4 0#8 0#8 0#8) = false ∧
    (tableRow (.encv 8#4 0#8 0#8 0#8)).matches (.word 0x20000000#32) = true ∧
    (tableRow .encvIllegalK0).matches (.word 0x20000000#32) = true := by decide

/-- A state with a command, also for EveryCommandIsAnswered, and one without. -/
theorem witness_StepRunsTheDecodedInstruction :
    ({ holding ev0 with cmds := [.word 0x40000000#32] } : State).cmds = .word 0x40000000#32 :: [] ∧
    (holding ev0).cmds = [] := by decide

/-- The ends of the range of bytes that are no status byte: also FrmFramesWithoutTouchingTheEvent,
ViewsFollowTheStatusByte, FrameFollowsTheTables. -/
theorem witness_NonStatusByteFaults :
    (0x00#8).getLsbD 7 = false ∧ (0x7F#8).getLsbD 7 = false := by decide

/-- The ends of the range of status bytes: DecKeepsDataChannelAndLength, DecodeIsAnEncode,
FrmFramesWithoutTouchingTheEvent. -/
theorem witness_statusByte :
    (0x80#8).getLsbD 7 = true ∧ (0xFF#8).getLsbD 7 = true := by decide

/-- Each class at its ends. -/
theorem witness_DecDecodesTheMessage :
    classOf 0x7F#8 = .notStatus ∧ classOf 0x80#8 = .channelVoice ∧ classOf 0xEF#8 = .channelVoice ∧
    classOf 0xF0#8 = .system ∧ classOf 0xFF#8 = .system := by decide

/-- Each clause on a byte 0 that meets it. -/
theorem witness_DecKeepsDataChannelAndLength :
    hiNib 0xEF#8 ≠ 15#4 ∧ hiNib 0xC0#8 = 12#4 ∧ (0xF3#8).getLsbD 7 = true ∧ 0xF4#8 ≤ 0xF4#8 ∧
    0xF4#8 ≤ 0xFF#8 ∧ (0xF1#8).getLsbD 7 = true ∧ hiNib 0x80#8 = 8#4 ∧ hiNib 0x9F#8 = 9#4 ∧
    hiNib 0xA0#8 = 10#4 ∧ hiNib 0xE0#8 = 14#4 ∧ (0xF2#8).getLsbD 7 = true ∧ hiNib 0x8F#8 ≠ 11#4 := by decide

/-- An event of each channel-voice nibble: also PubTwicePublishesTwice,
PublishedExactlyForVoiceKinds, ViewsFollowTheStatusByte, FrameFollowsTheTables. -/
theorem witness_PubPublishesTheMapping :
    ((voice 0x80#8).ev.evv = true ∧ hiNib (voice 0x80#8).ev.raw0 = 8#4 ∧ cvkView (voice 0x80#8).ev ≠ 0#4) ∧
    ((voice 0x9F#8).ev.evv = true ∧ hiNib (voice 0x9F#8).ev.raw0 = 9#4 ∧ cvkView (voice 0x9F#8).ev ≠ 0#4) ∧
    ((voice 0xA0#8).ev.evv = true ∧ hiNib (voice 0xA0#8).ev.raw0 = 10#4 ∧ cvkView (voice 0xA0#8).ev ≠ 0#4) ∧
    ((voice 0xB0#8).ev.evv = true ∧ hiNib (voice 0xB0#8).ev.raw0 = 11#4 ∧ cvkView (voice 0xB0#8).ev ≠ 0#4) ∧
    ((voice 0xC0#8).ev.evv = true ∧ hiNib (voice 0xC0#8).ev.raw0 = 12#4 ∧ cvkView (voice 0xC0#8).ev ≠ 0#4) ∧
    ((voice 0xD0#8).ev.evv = true ∧ hiNib (voice 0xD0#8).ev.raw0 = 13#4 ∧ cvkView (voice 0xD0#8).ev ≠ 0#4) ∧
    ((voice 0xEF#8).ev.evv = true ∧ hiNib (voice 0xEF#8).ev.raw0 = 14#4 ∧ cvkView (voice 0xEF#8).ev ≠ 0#4) := by decide

/-- A system event at each end: also PublishedExactlyForVoiceKinds, ViewsFollowTheStatusByte,
FrameFollowsTheTables. -/
theorem witness_PubReportsTheDiagnostic :
    (voice 0xF0#8).ev.evv = true ∧ hiNib (voice 0xF0#8).ev.raw0 = 15#4 ∧
    (voice 0xFF#8).ev.evv = true ∧
    hiNib (voice 0xFF#8).ev.raw0 = 15#4 := by decide

/-- A state without an event. -/
theorem witness_PubWithoutEventFaults :
    empty.ev.evv = false := by decide

/-- An event, with a kind that has a second field and one that has none: also RawBytesAndCombinedAgree. -/
theorem witness_BusPortCarriesTheMapping :
    ev0.evv = true ∧ (wireOf .noteOff ev0).bv = true ∧ (wireOf .pitchWheel ev0).bv = false := by decide

/-- The largest byte that is no command byte: also SystemTableOfMidi. -/
theorem witness_ClssClassifiesTheByte :
    0xEF#8 < 0xF0#8 := by decide

/-- A word of each reserved operation code. -/
theorem witness_ReservedCodesAreIllegal :
    0x0FFFFFFF#32 >>> 28 = 0#32 ∧ 8#32 ≤ 0x80000000#32 >>> 28 ∧ 8#32 ≤ 0xFFFFFFFF#32 >>> 28 := by decide

/-- A step that faults and keeps the event, and its response: also FaultResponseIsBare. -/
theorem witness_FaultsWriteNoState :
    ∃ t r, exec .reservedOp0 (holding ev0) = .next t ∧ ¬ hasStatus t 0#2 ∧ t.rsp = some r ∧ r.status ≠ 0#2 := by
  refine ⟨_, _, rfl, ?_, rfl, by decide⟩
  rintro ⟨r, hr, h⟩
  cases hr
  exact absurd h (by decide)

/-- A decode that faults. -/
theorem witness_FaultsWriteNoState_decode :
    ∃ t, exec (.dec 0x7F#8 0#8 0#8) (holding ev0) = .next t ∧ ¬ hasStatus t 0#2 := by
  refine ⟨_, rfl, ?_⟩
  rintro ⟨r, hr, h⟩
  cases hr
  exact absurd h (by decide)

/-- A step that clears EVV. -/
theorem witness_OnlyFaultingDecodeClearsTheEvent :
    ∃ t, exec (.notStatus 0#7 0#8 0#8) (holding ev0) = .next t ∧ (holding ev0).ev.evv = true ∧ t.ev.evv = false := ⟨_, rfl, rfl, rfl⟩

/-- A step that writes another event. -/
theorem witness_OnlyConstructorsWriteTheEvent :
    ∃ t, exec (.encs 0#4 0#8 0#8) (holding ev0) = .next t ∧ t.ev ≠ (holding ev0).ev := ⟨_, rfl, by decide⟩

/-- A decode and an encode from two states that hold different events. -/
theorem witness_NewEventForgetsTheOld :
    ∃ t t' u u', buildsEvents (.dec 0x80#8 0#8 0#8) = true ∧ isIllegal (.dec 0x80#8 0#8 0#8) = false ∧
      buildsEvents (.encv 14#4 0#8 0#8 0#8) = true ∧ isIllegal (.encv 14#4 0#8 0#8 0#8) = false ∧
      (holding ev0).cfg = empty.cfg ∧ (holding ev0).ev ≠ empty.ev ∧
      exec (.dec 0x80#8 0#8 0#8) (holding ev0) = .next t ∧ exec (.dec 0x80#8 0#8 0#8) empty = .next t' ∧
      t.ev.evv = true ∧
      exec (.encv 14#4 0#8 0#8 0#8) (holding ev0) = .next u ∧
      exec (.encv 14#4 0#8 0#8 0#8) empty = .next u' := ⟨_, _, _, _, by decide, by decide, by decide, by decide, rfl, by decide, rfl, rfl, rfl, rfl, rfl⟩

/-- A step that publishes and a step that does not. -/
theorem witness_BusGrowsOnlyByPublishing :
    ∃ t r u q, exec .pub (holding ev0) = .next t ∧ t.rsp = some r ∧ r.published = true ∧
      exec .pub empty = .next u ∧ u.rsp = some q ∧ q.published = false := ⟨_, _, _, _, rfl, rfl, rfl, rfl, rfl, rfl⟩

/-- `EV0` keeps R25. -/
theorem ev0_inv : EventInv defaultConfig ev0 := by
  intro _
  exact ⟨by decide, by decide, by decide, .inl (by decide), ⟨.three, by decide⟩, ⟨by decide, by decide⟩⟩

/-- A state that meets the invariant, holds an event and a command, and steps. -/
theorem witness_EveryStepKeepsTheInvariant :
    ∃ t, State.Inv { holding ev0 with cmds := [.word 0x40000000#32] } ∧
      step { holding ev0 with cmds := [.word 0x40000000#32] } = .next t := ⟨_, ⟨by decide, ev0_inv, fun _ h => (by cases h), fun _ h => (by cases h)⟩, rfl⟩

/-- A step that goes on. -/
theorem witness_StepsKeepTheConfiguration :
    ∃ t, onWord 0x10903C64#32 (holding ev0) = .next t := ⟨_, rfl⟩

/-- An event of a known length and one of an unknown length, each as the framer gives it; a byte
within and a byte beyond. -/
theorem witness_MessageBytesLieWithinTheLength :
    ev0.evv = true ∧ LengthFramed defaultConfig ev0 ∧ ev0.lenv = true ∧
    LengthFramed defaultConfig ⟨true, 0xD4#8, 85#7, 0#7, false, 0#2⟩ ∧
    mayRead ⟨true, 0xC2#8, 5#7, 0#7, true, 2#2⟩ 1 = true ∧
    mayRead ⟨true, 0xC2#8, 5#7, 0#7, true, 2#2⟩ 2 = false := ⟨rfl, ⟨.three, by decide⟩, rfl, ⟨.unknown, by decide⟩, by decide, by decide⟩

/-- A nibble and its kind. -/
theorem witness_VoiceTableAndInverse :
    classifyChannelVoice 8#4 = some .noteOff ∧ (0#4 < 8#4 ∨ 0#4 = 15#4) ∧ (15#4 < 8#4 ∨ 15#4 = 15#4) := by decide

/-- An event with a byte 0 of each class, each at an end of its range: also FrameFollowsTheTables. -/
theorem witness_ViewsFollowTheStatusByte :
    (voice 0x80#8).ev.evv = true ∧ classifyChannelVoice (hiNib (voice 0x80#8).ev.raw0) = some .noteOff ∧
    (voice 0xEF#8).ev.evv = true ∧ classifyChannelVoice (hiNib (voice 0xEF#8).ev.raw0) = some .pitchWheel ∧
    (voice 0xF0#8).ev.evv = true ∧ hiNib (voice 0xF0#8).ev.raw0 = 15#4 ∧
    (voice 0x7F#8).ev.evv = true ∧ (voice 0x7F#8).ev.raw0.getLsbD 7 = false := by decide

/-- A state of each clause, with an event and without. -/
theorem witness_PortsNeedAnEvent : (voice 0xF2#8).ev.evv = true ∧ empty.ev.evv = false := by decide

end Sys2Proof.Tests
end

section
/-! SUPPORT. What a lawful table of command bytes gives back on its own bytes (00_scope R8,
40_classification R112), what a decode of any system command leaves (41_decode R130), and the proof
about TimingClock (R143). -/

namespace Sys2Proof.Proofs

open Sys2Proof.Machine Sys2Proof.Claims

/-- R112: under an injective table the command byte of a named kind stands for that kind. -/
theorem classifySystemCommand_commandByte {t : SysCmdTable} {k : SysKind} {n : Nib}
    (hinj : (namedSysKinds.map t.nibOf).Nodup) (hk : k ∈ namedSysKinds) (hn : t.nibOf k = some n) :
    classifySystemCommand t (commandByte n) = k := by
  have hfind : namedSysKinds.find? (fun j => t.nibOf j == some n) = some k := by
    have hsome : (namedSysKinds.find? (fun j => t.nibOf j == some n)).isSome :=
      List.find?_isSome.2 ⟨k, hk, by simp [hn]⟩
    obtain ⟨j, hj⟩ := Option.isSome_iff_exists.1 hsome
    have hjn : t.nibOf j = some n := by simpa using List.find?_some hj
    have hjk : j = k :=
      List.inj_on_of_nodup_map hinj (List.mem_of_find?_eq_some hj) hk (hjn.trans hn.symm)
    rw [hj, hjk]
  simp [classifySystemCommand, commandByte_eq_nibbles, hfind]

/-- R130, the arm of the system commands: the kind and the length are those the table gives byte 0. -/
theorem decodeFromBytes_commandByte (n : Nib) (b1 b2 : Byte) (s : State) {k : SysKind}
    (hk : classifySystemCommand s.cfg.sysCmd (commandByte n) = k) :
    decodeFromBytes (commandByte n) b1 b2 s =
      .next (afterBuild s (commandByte n) b1 b2 (lenKnown (sysLength k)) (lenBits (sysLength k)) 0#4
        (sysCode k)) := by
  have hhi : hiNib (commandByte n) = 15#4 := by rw [commandByte_eq_nibbles, hiNib_nibbles]
  have hkind : kindOf s.cfg.sysCmd (commandByte n) = some (.sys k) := by
    rw [← hk, commandByte_eq_nibbles, kindOf_nibbles_sys]
  rw [decodeFromBytes_of_some hkind]
  simp [afterBuild, drive, writeEv, okResponse, builtEvent, cvkView, sckView, kindLength, hhi, hk,
    data7, statusCode, diagCode]

/-- Settles O17: every table gives TimingClock the nibble 8, and a lawful one gives it to no other
kind, so 0xF8 stands for TimingClock. -/
theorem timingClockUnderEveryTable : Obligations.TimingClockUnderEveryTable := by
  intro b1 b2 s ⟨_, _, hinj⟩
  have hkind : classifySystemCommand s.cfg.sysCmd (commandByte 8#4) = .timingClock :=
    classifySystemCommand_commandByte hinj (by decide) rfl
  exact decodeFromBytes_commandByte 8#4 b1 b2 s hkind

end Sys2Proof.Proofs
end

section
/-! SUPPORT. What a step and an instruction can do, read off `Effect`, and which instructions build
events; with them the statements about the state and the step (10_state R26, R29, R30, R37, R38, R46 to
R49). -/

namespace Sys2Proof.Proofs

open Sys2Proof.Machine Sys2Proof.Claims

/-! ### The step -/

theorem step_of_presented {s : State} {p : Presented} {rest : List Presented}
    (h : s.cmds = p :: rest) : step s = exec (decode p) (takeCommand rest s) := by
  simp [step, h]

theorem step_of_nothing_presented {s : State} (h : s.cmds = []) : step s = .fault .noCommand := by
  simp [step, h]

/-- The inversion of an instruction: a next state is one of the effects. -/
theorem effect_of_exec {i : Instr} {s t : State} (h : exec i s = .next t) : Effect s t := by
  obtain ⟨t', hexec, heff⟩ := exec_effect i s
  obtain rfl : t' = t := by simpa [hexec] using h
  exact heff

/-- The inversion of a step: a command was taken and its instruction had one of the effects. -/
theorem effect_of_step {s t : State} (h : step s = .next t) :
    ∃ rest, Effect (takeCommand rest s) t := by
  cases hcmds : s.cmds with
  | nil => simp [step_of_nothing_presented hcmds] at h
  | cons p rest => exact ⟨rest, effect_of_exec (step_of_presented hcmds ▸ h)⟩

theorem effect_cfg {s t : State} (h : Effect s t) : t.cfg = s.cfg := by cases h <;> rfl

theorem effect_cmds {s t : State} (h : Effect s t) : t.cmds = s.cmds := by cases h <;> rfl

theorem effect_rsp {s t : State} (h : Effect s t) : ∃ r, t.rsp = some r := by
  cases h <;> exact ⟨_, rfl⟩

/-- Settles O8: both clauses are the equations of `step`. -/
theorem stepRunsTheDecodedInstruction : Obligations.StepRunsTheDecodedInstruction :=
  ⟨fun _ _ _ hcmds => step_of_presented hcmds, fun _ hcmds => step_of_nothing_presented hcmds⟩

/-- Settles O9: every instruction has an effect, and each effect drives a response and leaves the
configuration and the commands alone. -/
theorem everyCommandIsAnswered : Obligations.EveryCommandIsAnswered := by
  intro s p rest hcmds
  obtain ⟨t, hexec, heff⟩ := exec_effect (decode p) (takeCommand rest s)
  obtain ⟨r, hrsp⟩ := effect_rsp heff
  exact ⟨t, r, (step_of_presented hcmds).trans hexec, hrsp, effect_cmds heff,
    (effect_cfg heff).trans (takeCommand_cfg rest s)⟩

/-- Settles O50: taking a command keeps the configuration, and so does every effect. -/
theorem stepsKeepTheConfiguration : Obligations.StepsKeepTheConfiguration := by
  intro s t hstep
  obtain ⟨rest, heff⟩ := effect_of_step hstep
  exact (effect_cfg heff).trans (takeCommand_cfg rest s)

/-! ### Which instructions write the event -/

/-- How an instruction builds an event: it is one of the three constructors of R26. -/
inductive Builds (i : Instr) : Prop where
  /-- A decode, of the byte 0 the statements name. -/
  | byDecode (b0 b1 b2 : Byte) (hb0 : decodedByte0 i = some b0)
      (hexec : exec i = decodeFromBytes b0 b1 b2)
  /-- A channel-voice encode; a legal one names a kind. -/
  | byEncodeVoice (k : Nib) (c b1 b2 : Byte)
      (hlegal : isIllegal i = false → 8#4 ≤ k ∧ k ≤ 14#4)
      (hexec : exec i = encodeChannelVoice k c b1 b2)
  /-- A system encode. -/
  | byEncodeSystem (k : Nib) (b1 b2 : Byte) (hexec : exec i = encodeSystem k b1 b2)

theorem builds_of_decodedByte0 {i : Instr} {b0 : Byte} (h : decodedByte0 i = some b0) : Builds i := by
  have hdec : ∃ b1 b2, exec i = decodeFromBytes b0 b1 b2 := by
    cases i
    all_goals cases h
    all_goals exact ⟨_, _, rfl⟩
  obtain ⟨b1, b2, hexec⟩ := hdec
  exact .byDecode b0 b1 b2 h hexec

theorem builds_of_isEncoder {i : Instr} (h : isEncoder i = true) : Builds i := by
  cases i
  case encv k c b1 b2 =>
    exact .byEncodeVoice k c b1 b2 (by simp [isIllegal]) rfl
  case encs k b1 b2 => exact .byEncodeSystem k b1 b2 rfl
  case buildNoteOn n v c => exact .byEncodeVoice 9#4 c n v (fun _ => by decide) rfl
  case buildNoteOff n v c => exact .byEncodeVoice 8#4 c n v (fun _ => by decide) rfl
  case buildProgramChange p c => exact .byEncodeVoice 12#4 c p 0#8 (fun _ => by decide) rfl
  case buildControllerChange n v c => exact .byEncodeVoice 11#4 c n v (fun _ => by decide) rfl
  all_goals cases h

theorem builds_of_buildsEvents {i : Instr} (h : buildsEvents i = true) : Builds i := by
  rcases Bool.or_eq_true_iff.1 h with hdec | henc
  · obtain ⟨b0, hb0⟩ := Option.isSome_iff_exists.1 hdec
    exact builds_of_decodedByte0 hb0
  · exact builds_of_isEncoder henc

theorem execPub_ev {s t : State} (h : execPub s = .next t) : t.ev = s.ev := by
  cases he : s.ev.evv with
  | false => rw [execPub_of_noEvent he] at h; cases h; rfl
  | true =>
    cases hk : classifyChannelVoice (hiNib s.ev.raw0) with
    | none => rw [execPub_of_system he hk] at h; cases h; rfl
    | some k => rw [execPub_of_channelVoice he hk] at h; cases h; rfl

theorem execClsv_ev {n : Nib} {s t : State} (h : execClsv n s = .next t) : t.ev = s.ev := by
  cases hk : classifyChannelVoice n with
  | none => rw [execClsv_of_none hk] at h; cases h; rfl
  | some k => rw [execClsv_of_some hk] at h; cases h; rfl

theorem execFrm_ev {st d : Byte} {s t : State} (h : execFrm st d s = .next t) : t.ev = s.ev := by
  cases hl : frame s.cfg st (data7 d) with
  | none => rw [execFrm_of_none hl] at h; cases h; rfl
  | some l => rw [execFrm_of_some hl] at h; cases h; rfl

/-- PUB, the queries and the illegal rows leave the event register alone. -/
theorem ev_eq_of_not_buildsEvents {i : Instr} {s t : State} (hb : buildsEvents i = false)
    (h : exec i s = .next t) : t.ev = s.ev := by
  cases i
  case pub => exact execPub_ev h
  case clsv => exact execClsv_ev h
  case frm => exact execFrm_ev h
  all_goals cases hb
  all_goals (cases h; rfl)

/-- Settles O43: the instructions that build no event keep the one there is. -/
theorem onlyConstructorsWriteTheEvent : Obligations.OnlyConstructorsWriteTheEvent := by
  intro i s t hexec hne
  by_contra hb
  exact hne (ev_eq_of_not_buildsEvents (by simpa using hb) hexec)

/-- R110 by bit 7: a byte 0 has no kind exactly when it is no status byte. -/
theorem kindOf_eq_none_iff_bit7 (t : SysCmdTable) (b0 : Byte) :
    kindOf t b0 = none ↔ b0.getLsbD 7 = false := by
  rw [kindOf_eq_none_iff, ← Bool.not_eq_true, bit7_iff_hiNib, Nat.not_le]

/-- A decode that leaves no event had a byte 0 with bit 7 clear, and says so (41_decode R150). -/
theorem decodeFromBytes_clears {b0 b1 b2 : Byte} {s t : State}
    (h : decodeFromBytes b0 b1 b2 s = .next t) (hev : t.ev.evv = false) :
    b0.getLsbD 7 = false ∧ hasStatus t 1#2 := by
  cases hk : kindOf s.cfg.sysCmd b0 with
  | none =>
    rw [decodeFromBytes_of_none hk] at h
    cases h
    exact ⟨(kindOf_eq_none_iff_bit7 _ b0).1 hk, _, rfl, rfl⟩
  | some k =>
    rw [decodeFromBytes_of_some hk] at h
    cases h
    cases hev

theorem encodeChannelVoice_keeps_evv {k : Nib} {c b1 b2 : Byte} {s t : State}
    (h : encodeChannelVoice k c b1 b2 s = .next t) (hev : s.ev.evv = true) : t.ev.evv = true := by
  cases hk : classifyChannelVoice k with
  | none => rw [encodeChannelVoice_of_none hk] at h; cases h; exact hev
  | some kind => rw [encodeChannelVoice_of_some hk] at h; cases h; rfl

theorem encodeSystem_evv {k : Nib} {b1 b2 : Byte} {s t : State}
    (h : encodeSystem k b1 b2 s = .next t) : t.ev.evv = true := by
  rw [encodeSystem_eq] at h; cases h; rfl

/-- Settles O42: only a constructor writes the event, an encode never clears EVV, and a decode clears it
only when byte 0 has no kind. -/
theorem onlyFaultingDecodeClearsTheEvent : Obligations.OnlyFaultingDecodeClearsTheEvent := by
  intro i s t hexec hbefore hafter
  have hchanged : t.ev ≠ s.ev := fun heq => by simp [heq, hbefore] at hafter
  obtain ⟨b0, b1, b2, hb0, hi⟩ | ⟨k, c, b1, b2, _, hi⟩ | ⟨k, b1, b2, hi⟩ :=
    builds_of_buildsEvents (onlyConstructorsWriteTheEvent i s t hexec hchanged)
  · obtain ⟨hbit, hstatus⟩ := decodeFromBytes_clears (hi ▸ hexec) hafter
    exact ⟨⟨b0, hb0, hbit⟩, hstatus⟩
  · simp [encodeChannelVoice_keeps_evv (hi ▸ hexec) hbefore] at hafter
  · simp [encodeSystem_evv (hi ▸ hexec)] at hafter

/-! ### A new event forgets the old -/

/-- What a constructor answers and builds hangs on the configuration alone (10_state R26). -/
def DeterminedByConfig (f : State → Host.Outcome State Fault Refusal) : Prop :=
  ∀ s s' t t' : State, s.cfg = s'.cfg → f s = .next t → f s' = .next t' →
    t.rsp = t'.rsp ∧ t.ev.evv = t'.ev.evv ∧ (t.ev.evv = true → t.ev = t'.ev)

theorem decodeFromBytes_determinedByConfig (b0 b1 b2 : Byte) :
    DeterminedByConfig (decodeFromBytes b0 b1 b2) := by
  intro s s' t t' hcfg h h'
  cases hk : kindOf s.cfg.sysCmd b0 with
  | none =>
    rw [decodeFromBytes_of_none hk] at h
    rw [decodeFromBytes_of_none (hcfg ▸ hk)] at h'
    cases h; cases h'
    simp
  | some k =>
    rw [decodeFromBytes_of_some hk] at h
    rw [decodeFromBytes_of_some (hcfg ▸ hk)] at h'
    cases h; cases h'
    simp [hcfg]

theorem encodeChannelVoice_determinedByConfig {k : Nib} (hk : 8#4 ≤ k ∧ k ≤ 14#4) (c b1 b2 : Byte) :
    DeterminedByConfig (encodeChannelVoice k c b1 b2) := by
  intro s s' t t' hcfg h h'
  obtain ⟨kind, hkind⟩ := Option.isSome_iff_exists.1 ((classifyChannelVoice_isSome k).2 hk)
  rw [encodeChannelVoice_of_some hkind] at h h'
  cases h; cases h'
  simp [hcfg]

theorem encodeSystem_determinedByConfig (k : Nib) (b1 b2 : Byte) :
    DeterminedByConfig (encodeSystem k b1 b2) := by
  intro s s' t t' hcfg h h'
  rw [encodeSystem_eq] at h h'
  cases h; cases h'
  simp [hcfg]

/-- Settles O44: each of the three constructors is determined by the configuration. -/
theorem newEventForgetsTheOld : Obligations.NewEventForgetsTheOld := by
  intro i s s' t t' hb hlegal
  have hdet : DeterminedByConfig (exec i) := by
    obtain ⟨b0, b1, b2, _, hi⟩ | ⟨k, c, b1, b2, hk, hi⟩ | ⟨k, b1, b2, hi⟩ :=
      builds_of_buildsEvents hb
    · exact hi ▸ decodeFromBytes_determinedByConfig b0 b1 b2
    · exact hi ▸ encodeChannelVoice_determinedByConfig (hk hlegal) c b1 b2
    · exact hi ▸ encodeSystem_determinedByConfig k b1 b2
  exact hdet s s' t t'

/-! ### Reset and the ports -/

theorem defaultConfig_wf : defaultConfig.Wf := ⟨by decide, by decide, by decide⟩

/-- An event register with EVV = 0 meets R25. -/
theorem eventInv_of_noEvent (c : Config) {e : Event} (h : e.evv = false) : EventInv c e := by
  simp [EventInv, h]

/-- Settles O47: the default configuration is lawful, and there is no event, response or record yet. -/
theorem resetMeetsTheInvariant : Obligations.ResetMeetsTheInvariant :=
  ⟨defaultConfig_wf, eventInv_of_noEvent _ rfl, by simp [State.reset], by simp [State.reset]⟩

/-- Settles O48: `State.reset` writes each of the four fields. -/
theorem resetLeavesNoEvent : Obligations.ResetLeavesNoEvent := ⟨rfl, rfl, rfl, rfl⟩

theorem portImage_of_noEvent {s : State} (h : s.ev.evv = false) : portImage s = none := by
  simp [portImage, h]

theorem portImage_of_event {s : State} (h : s.ev.evv = true) :
    portImage s = some ⟨s.ev.raw0, s.ev.raw1, s.ev.raw2, s.ev.lenv, s.ev.len, channelView s.ev,
      combined14View s.ev, cvkView s.ev, sckView s.cfg.sysCmd s.ev⟩ := by
  simp [portImage, h, data1View, data2View]

/-- Settles O56: the ports are the views, and the combined value is a sum (43_accessors R183). -/
theorem portsNeedAnEvent : Obligations.PortsNeedAnEvent := by
  refine fun s => ⟨fun hev => ⟨_, portImage_of_event hev, rfl, rfl, rfl, rfl, rfl, rfl, ?_, rfl, rfl⟩,
    portImage_of_noEvent⟩
  exact combined_toNat s.ev.raw1 s.ev.raw2

end Sys2Proof.Proofs
end

section
/-! SUPPORT. The invariant of the machine (10_state R25, R40 to R43, 44_publish R207): what each of its
parts needs, and the proof that every step keeps it. -/

namespace Sys2Proof.Proofs

open Sys2Proof.Machine Sys2Proof.Claims

/-! ### The event register (R25) -/

theorem dataByte_bit7 (v : U7) : (dataByte v).getLsbD 7 = false := by
  revert v; decide

theorem bit7_of_kindOf {t : SysCmdTable} {b0 : Byte} {k : Kind} (h : kindOf t b0 = some k) :
    b0.getLsbD 7 = true := by
  by_contra hclear
  simp [(kindOf_eq_none_iff_bit7 t b0).2 (by simpa using hclear)] at h

theorem kindOf_statusByte (t : SysCmdTable) {n : Nib} {k : CVKind} (c : Byte)
    (h : classifyChannelVoice n = some k) : kindOf t (statusByte n c) = some (.cv k) :=
  statusByte_eq_nibbles n c ▸ kindOf_nibbles_cv t (loNib c) h

theorem kindOf_commandByte (t : SysCmdTable) (n : Nib) :
    kindOf t (commandByte n) = some (.sys (classifySystemCommand t (commandByte n))) :=
  commandByte_eq_nibbles n ▸ kindOf_nibbles_sys t n

/-- A byte 0 has a channel-voice kind only by its high nibble (R110, R111). -/
theorem classify_of_kindOf_cv {t : SysCmdTable} {b0 : Byte} {k : CVKind}
    (h : kindOf t b0 = some (.cv k)) : classifyChannelVoice (hiNib b0) = some k := by
  unfold kindOf at h
  split at h
  · simpa using h
  · simp at h
  · simp at h

/-- A byte 0 has a system kind only when it is a command byte (R110, R112). -/
theorem classify_of_kindOf_sys {t : SysCmdTable} {b0 : Byte} {k : SysKind}
    (h : kindOf t b0 = some (.sys k)) : hiNib b0 = 15#4 ∧ classifySystemCommand t b0 = k := by
  unfold kindOf at h
  split at h
  case h_1 => simp at h
  case h_2 hclass =>
    have hhi : (hiNib b0).toNat = 15 := by
      rw [classOf_eq] at hclass
      split_ifs at hclass with hlow hsys
      exact hsys
    exact ⟨BitVec.eq_of_toNat_eq hhi, by simpa using h⟩
  case h_3 => simp at h

/-- The nibble of a channel-voice kind lies in 8 to 14 (R111). -/
theorem nib_range_of_classify {n : Nib} {k : CVKind} (h : classifyChannelVoice n = some k) :
    8#4 ≤ n ∧ n ≤ 14#4 :=
  (classifyChannelVoice_isSome n).1 (by simp [h])

/-- The kind views of a channel-voice event (43_accessors R185, R186). -/
theorem kindViews_of_voice (t : SysCmdTable) {e : Event} {k : CVKind}
    (h : classifyChannelVoice (hiNib e.raw0) = some k) :
    cvkView e = hiNib e.raw0 ∧ sckView t e = 0#4 := by
  obtain ⟨hlo, hhi⟩ := nib_range_of_classify h
  have hne15 : hiNib e.raw0 ≠ 15#4 := by bv_omega
  exact ⟨by simp [cvkView, hlo, hhi], by simp [sckView, hne15]⟩

/-- The kind views of a system event (43_accessors R185, R186). -/
theorem kindViews_of_system (t : SysCmdTable) {e : Event} (h : hiNib e.raw0 = 15#4) :
    cvkView e = 0#4 ∧ sckView t e = sysCode (classifySystemCommand t e.raw0) := by
  simp [cvkView, sckView, h]

theorem sysCode_eq_zero_iff (k : SysKind) : sysCode k = 0#4 ↔ k = .none := by
  cases k <;> decide

/-- (I-c) of R25 for an event whose byte 0 has a kind. -/
theorem oneKind_of_kindOf {t : SysCmdTable} {e : Event} {k : Kind} (h : kindOf t e.raw0 = some k) :
    OneKind t e := by
  cases k with
  | cv k =>
    have hk := classify_of_kindOf_cv h
    obtain ⟨hlo, hhi⟩ := nib_range_of_classify hk
    obtain ⟨hcvk, hsck⟩ := kindViews_of_voice t hk
    exact .inl ⟨hlo, hhi, by bv_omega, hsck⟩
  | sys k =>
    obtain ⟨hhi, -⟩ := classify_of_kindOf_sys h
    obtain ⟨hcvk, hsck⟩ := kindViews_of_system t hhi
    have hcode : sysCode (classifySystemCommand t e.raw0) ≠ 0#4 := fun hzero =>
      classifySystemCommand_ne_none t hhi ((sysCode_eq_zero_iff _).1 hzero)
    exact .inr ⟨hhi, hcvk, hsck ▸ hcode⟩

/-- The kinds of unknown length (R114, R115); no message is of the kind None. -/
theorem lenKnown_kindLength (c : Config) (k : Kind) (d1 : U7) (hk : k ≠ .sys .none) :
    lenKnown (kindLength c k d1) = false ↔ k = .cv .channelAftertouch ∨ k = .sys .sysEx := by
  cases k with
  | cv k =>
    cases k
    case controllerChange =>
      simp only [kindLength, cvLength]
      split <;> simp [lenKnown]
    all_goals simp [kindLength, cvLength, lenKnown]
  | sys k => cases k <;> simp_all [kindLength, sysLength, lenKnown]

/-- A built event with the length of its kind meets R25: the one fact behind every constructor. -/
theorem eventInv_builtEvent {c : Config} {b0 b1 b2 : Byte} {k : Kind}
    (h : kindOf c.sysCmd b0 = some k) :
    EventInv c (builtEvent b0 b1 b2 (kindLength c k (data7 b1))) := by
  have hk : k ≠ .sys .none := by
    rintro rfl
    obtain ⟨hhi, hnone⟩ := classify_of_kindOf_sys h
    exact classifySystemCommand_ne_none c.sysCmd hhi hnone
  have hframed : LengthFramed c (builtEvent b0 b1 b2 (kindLength c k (data7 b1))) :=
    ⟨_, by simp [frame, h], rfl, rfl⟩
  have hunknown : UnknownLengthKinds c.sysCmd (builtEvent b0 b1 b2 (kindLength c k (data7 b1))) := by
    simp [UnknownLengthKinds, h, lenKnown_kindLength c k _ hk]
  exact fun _ => ⟨bit7_of_kindOf h, dataByte_bit7 _, dataByte_bit7 _, oneKind_of_kindOf h, hframed,
    hunknown⟩

/-! ### The response (R40 to R43) -/

theorem lenBits_eq_zero_iff (l : Len) : lenKnown l = false ↔ lenBits l = 0#2 := by
  cases l <;> decide

theorem sysCode_le (k : SysKind) : sysCode k ≤ 12#4 := by
  cases k <;> decide

theorem diagCode_le (d : Diag) : diagCode d ≤ 5#3 := by
  cases d <;> decide

/-- A pair of kind codes that can stand in a response: at most one is not 0, each within its table
(R41, R42). -/
def KindCodes (cvk sck : Nib) : Prop :=
  (8#4 ≤ cvk ∧ cvk ≤ 14#4 ∧ sck = 0#4) ∨ (cvk = 0#4 ∧ sck ≤ 12#4)

theorem kindCodes_voice {n : Nib} {k : CVKind} (h : classifyChannelVoice n = some k) :
    KindCodes n 0#4 :=
  have ⟨hlo, hhi⟩ := nib_range_of_classify h
  .inl ⟨hlo, hhi, rfl⟩

theorem kindCodes_system (k : SysKind) : KindCodes 0#4 (sysCode k) := .inr ⟨rfl, sysCode_le k⟩

/-- The two kind views of an event are a pair of kind codes. -/
theorem kindCodes_views {t : SysCmdTable} {e : Event} {k : Kind} (h : kindOf t e.raw0 = some k) :
    KindCodes (cvkView e) (sckView t e) := by
  cases k with
  | cv k =>
    have hk := classify_of_kindOf_cv h
    obtain ⟨hcvk, hsck⟩ := kindViews_of_voice t hk
    rw [hcvk, hsck]
    exact kindCodes_voice hk
  | sys k =>
    obtain ⟨hhi, -⟩ := classify_of_kindOf_sys h
    obtain ⟨hcvk, hsck⟩ := kindViews_of_system t hhi
    rw [hcvk, hsck]
    exact kindCodes_system _

/-- The codes FRM answers for a status byte of a channel-voice kind or any other (R120). -/
theorem kindCodes_frameCodes (t : SysCmdTable) (st : Byte) :
    KindCodes (frameCodes t st).1 (frameCodes t st).2 := by
  unfold frameCodes
  split
  next hclass =>
    have hrange : 8#4 ≤ hiNib st ∧ hiNib st ≤ 14#4 := by
      unfold classOf at hclass
      split_ifs at hclass with hvoice
      exact hvoice
    exact .inl ⟨hrange.1, hrange.2, rfl⟩
  next => exact kindCodes_system _

theorem responseInv_faultResponse (f : Status) : ResponseInv (faultResponse f) := by
  simp [ResponseInv, faultResponse]

/-- A response with STATUS = OK meets the invariant when its kind codes, its length fields and its
diagnostic do, and a published one has a channel-voice kind and no diagnostic. -/
theorem responseInv_of_ok {r : Response} (hok : r.status = 0#2) (hkind : KindCodes r.cvk r.sck)
    (hlen : r.lenv = false ↔ r.len = 0#2) (hdiag : r.diag ≤ 5#3)
    (hpub : r.published = true → r.cvk ≠ 0#4 ∧ r.diag = 0#3) : ResponseInv r := by
  rcases hkind with ⟨hlo, hhi, hsck⟩ | ⟨hcvk, hsck⟩
  · exact ⟨.inr ⟨hlo, hhi⟩, by simp [hsck], hdiag, .inr hsck, hlen, hpub, absurd hok⟩
  · exact ⟨.inl hcvk, hsck, hdiag, .inl hcvk, hlen, hpub, absurd hok⟩

theorem responseInv_okResponse {cvk sck : Nib} (l : Len) (h : KindCodes cvk sck) :
    ResponseInv (okResponse cvk sck l) :=
  responseInv_of_ok rfl h (lenBits_eq_zero_iff l) (diagCode_le .noDiag) (by simp [okResponse])

/-- The length fields of an event that meets R25 (R43). -/
theorem lenFields_of_eventInv {c : Config} {e : Event} (he : e.evv = true) (h : EventInv c e) :
    e.lenv = false ↔ e.len = 0#2 := by
  obtain ⟨-, -, -, -, ⟨l, -, hlenv, hlen⟩, -⟩ := h he
  rw [hlenv, hlen]
  exact lenBits_eq_zero_iff l

theorem responseInv_publishedResponse {c : Config} {e : Event} {k : CVKind} (he : e.evv = true)
    (h : EventInv c e) (hk : classifyChannelVoice (hiNib e.raw0) = some k) :
    ResponseInv (publishedResponse e) := by
  obtain ⟨hlo, -⟩ := nib_range_of_classify hk
  obtain ⟨hcvk, -⟩ := kindViews_of_voice c.sysCmd hk
  have hcodes : KindCodes (cvkView e) 0#4 := hcvk ▸ kindCodes_voice hk
  have hne0 : cvkView e ≠ 0#4 := by bv_omega
  exact responseInv_of_ok rfl hcodes (lenFields_of_eventInv he h) (diagCode_le .noDiag)
    fun _ => ⟨hne0, rfl⟩

theorem sckView_le (t : SysCmdTable) (e : Event) : sckView t e ≤ 12#4 := by
  unfold sckView
  split
  · exact sysCode_le _
  · simp

theorem responseInv_diagnosticResponse {c : Config} {e : Event} (he : e.evv = true)
    (h : EventInv c e) : ResponseInv (diagnosticResponse c.sysCmd e) :=
  responseInv_of_ok rfl (.inr ⟨rfl, sckView_le c.sysCmd e⟩) (lenFields_of_eventInv he h)
    (diagCode_le _) (by simp [diagnosticResponse])

/-! ### The records on the bus (R207) -/

theorem mappingOf_names (k : CVKind) (e : Event) : (mappingOf k e).map Prod.fst = fieldNames k := by
  cases k <;> rfl

/-- Every value of a mapping is a data value, the combined value or the channel. -/
theorem mappingOf_le (k : CVKind) (e : Event) : ∀ f ∈ mappingOf k e, f.2 ≤ fieldMax f.1 := by
  have h1 : (data1View e).toNat ≤ 127 := Nat.le_of_lt_succ (data1View e).isLt
  have h2 : (data2View e).toNat ≤ 127 := Nat.le_of_lt_succ (data2View e).isLt
  have hch : (channelView e).toNat ≤ 15 := Nat.le_of_lt_succ (channelView e).isLt
  have h14 : (combined14View e).toNat ≤ 16383 := Nat.le_of_lt_succ (combined14View e).isLt
  cases k <;> simp [mappingOf, fieldMax, h1, h2, hch, h14]

theorem publicationInv_mappingOf (k : CVKind) (e : Event) : PublicationInv ⟨k, mappingOf k e⟩ :=
  ⟨mappingOf_names k e, mappingOf_le k e⟩

/-! ### The step -/

/-- The invariant does not speak of the presented commands. -/
theorem inv_takeCommand {s : State} (rest : List Presented) (h : s.Inv) : (takeCommand rest s).Inv := h

theorem inv_writeEv {s : State} {e : Event} (h : s.Inv) (he : EventInv s.cfg e) :
    (writeEv e s).Inv := by
  obtain ⟨hcfg, -, hrsp, hbus⟩ := h
  exact ⟨hcfg, he, hrsp, hbus⟩

theorem inv_dropEvent {s : State} (h : s.Inv) : (dropEvent s).Inv := by
  obtain ⟨hcfg, -, hrsp, hbus⟩ := h
  exact ⟨hcfg, eventInv_of_noEvent _ rfl, hrsp, hbus⟩

theorem inv_busAppend {s : State} {p : Publication} (h : s.Inv) (hp : PublicationInv p) :
    (busAppend p s).Inv := by
  obtain ⟨hcfg, hev, hrsp, hbus⟩ := h
  refine ⟨hcfg, hev, hrsp, fun q hq => ?_⟩
  rcases List.mem_append.1 hq with hold | hnew
  · exact hbus q hold
  · exact List.mem_singleton.1 hnew ▸ hp

theorem inv_drive {s : State} {r : Response} (w : Option BusWire) (h : s.Inv) (hr : ResponseInv r) :
    (drive r w s).Inv := by
  obtain ⟨hcfg, hev, -, hbus⟩ := h
  exact ⟨hcfg, hev, fun r' hr' => Option.some.inj hr' ▸ hr, hbus⟩

/-- Each effect writes a lawful event or none, drives a response that can be, and hands over a record of
its topic's shape. -/
theorem effect_inv {s t : State} (h : s.Inv) (heff : Effect s t) : t.Inv := by
  have ⟨_, hev, _⟩ := h
  cases heff with
  | decoded b0 b1 b2 k hk =>
    exact inv_drive none (inv_writeEv h (eventInv_builtEvent hk))
      (responseInv_okResponse _ (kindCodes_views hk))
  | dropped => exact inv_drive none (inv_dropEvent h) (responseInv_faultResponse _)
  | encodedVoice k c b1 b2 kind hk =>
    exact inv_drive none (inv_writeEv h (eventInv_builtEvent (kindOf_statusByte _ c hk)))
      (responseInv_okResponse _ (kindCodes_voice hk))
  | encodedSystem k b1 b2 =>
    exact inv_drive none (inv_writeEv h (eventInv_builtEvent (kindOf_commandByte _ k)))
      (responseInv_okResponse _ (kindCodes_system _))
  | faulted f => exact inv_drive none h (responseInv_faultResponse f)
  | published k he hk =>
    exact inv_drive _ (inv_busAppend h (publicationInv_mappingOf k s.ev))
      (responseInv_publishedResponse he hev hk)
  | diagnosed he _ => exact inv_drive none h (responseInv_diagnosticResponse he hev)
  | voiceQuery n k hk => exact inv_drive none h (responseInv_okResponse _ (kindCodes_voice hk))
  | systemQuery b => exact inv_drive none h (responseInv_okResponse _ (kindCodes_system _))
  | framed st d l _ => exact inv_drive none h (responseInv_okResponse l (kindCodes_frameCodes _ st))

/-- Settles O46: taking the command touches no part of the invariant, and every effect keeps it. -/
theorem everyStepKeepsTheInvariant : Obligations.EveryStepKeepsTheInvariant := by
  intro s t hinv hstep
  obtain ⟨rest, heff⟩ := effect_of_step hstep
  exact effect_inv (inv_takeCommand rest hinv) heff

end Sys2Proof.Proofs
end

section
/-! SUPPORT. The decoder against the encoder and against the opcode table (30_encoding R88 to R96, R106):
which row each packet and each command word decodes to, what encodes it, and which rows are illegal; with
them the statements about encoding and about the illegal commands. -/

namespace Sys2Proof.Proofs

open Sys2Proof.Machine Sys2Proof.Claims
open Sys2Proof.Laws.RowMatch (and_opMask and_opKMask)

/-- The case split on a nibble, one case per value. -/
theorem nib_cases {P : Nib → Prop} (n0 : P 0#4) (n1 : P 1#4) (n2 : P 2#4) (n3 : P 3#4) (n4 : P 4#4)
    (n5 : P 5#4) (n6 : P 6#4) (n7 : P 7#4) (n8 : P 8#4) (n9 : P 9#4) (n10 : P 10#4) (n11 : P 11#4)
    (n12 : P 12#4) (n13 : P 13#4) (n14 : P 14#4) (n15 : P 15#4) (n : Nib) : P n := by
  obtain ⟨⟨v, hv⟩⟩ := n
  interval_cases v <;> assumption

/-! ### Reading a command word -/

/-- R92: the decoder reads a command word by its fields. -/
@[simp] theorem decode_commandWord (op k : Nib) (x0 x1 x2 : Byte) :
    decode (.word (commandWord op k x0 x1 x2)) = decodeFields op k x0 x1 x2 := by
  simp [decode]

/-- R104: an ENCV word whose nibble names a kind is ENCV with its operands. -/
theorem decodeEncv_of_kind {k : Nib} (hlo : 8#4 ≤ k) (hhi : k ≤ 14#4) (x0 x1 x2 : Byte) :
    decodeEncv k x0 x1 x2 = .encv k x0 x1 x2 := by
  cases k using nib_cases
  case n0 | n1 | n2 | n3 | n4 | n5 | n6 | n7 => exact absurd hlo (by decide)
  case n15 => exact absurd hhi (by decide)
  all_goals rfl

/-- R96: an ENCV word is illegal exactly when its nibble names no kind. -/
theorem isIllegal_decodeEncv (k : Nib) (x0 x1 x2 : Byte) :
    isIllegal (decodeEncv k x0 x1 x2) = decide (k < 8#4 ∨ 14#4 < k) := by
  cases k using nib_cases <;> rfl

/-- R95: a reserved operation code is illegal, whatever the other fields hold. -/
theorem isIllegal_decodeFields_of_reserved {op : Nib} (h : op = 0#4 ∨ 8#4 ≤ op) (k : Nib)
    (x0 x1 x2 : Byte) : isIllegal (decodeFields op k x0 x1 x2) = true := by
  cases op using nib_cases
  case n1 | n2 | n3 | n4 | n5 | n6 | n7 => exact absurd h (by decide)
  all_goals rfl

/-- Settles O4: the match of `decodeFields` on the operation code, and for ENCV the one on the nibble. -/
theorem operationCodesSelectTheOperation : Obligations.OperationCodesSelectTheOperation := by
  intro k x0 x1 x2
  simp only [decode_commandWord]
  exact ⟨rfl, fun hlo hhi => decodeEncv_of_kind hlo hhi x0 x1 x2, rfl, rfl, rfl, rfl, rfl⟩

/-- Settles O5: the model's decoder is run on each of the words. -/
theorem specWordsDecode : Obligations.SpecWordsDecode :=
  ⟨rfl, rfl, rfl, rfl, rfl, rfl, rfl, rfl, rfl, rfl, rfl, rfl⟩

theorem sameStep_of_decode_eq {w w' : Word} (h : decode (.word w) = decode (.word w')) :
    SameStep w w' := by
  intro s rest
  rw [step_of_presented rfl, step_of_presented rfl, h]
  rfl

/-- Settles O3: the fields left out do not reach the instruction the word decodes to. -/
theorem unusedFieldsAreIgnored : Obligations.UnusedFieldsAreIgnored := by
  refine ⟨fun k x0 x1 x2 => ?_, fun _ _ _ _ => ⟨rfl, rfl, rfl, rfl, rfl, rfl⟩⟩
  refine ⟨?_, ?_, ?_, ?_, ?_, ?_⟩
  all_goals
    apply sameStep_of_decode_eq
    simp only [decode_commandWord]
    rfl

/-! ### Reading a packet -/

/-- R90: a packet whose byte 0 has bit 7 clear. -/
theorem decodePacket_of_notStatus {b0 : Byte} (h : (hiNib b0).toNat < 8) (b1 b2 : Byte) :
    decodePacket b0 b1 b2 = .notStatus (data7 b0) b1 b2 := by
  unfold decodePacket
  split
  case h_9 => rfl
  all_goals omega

/-- R89: the rows of the system messages are the command bytes. -/
theorem encode_decodeSystemMessage (lo : Nib) (b1 b2 : Byte) :
    encode (decodeSystemMessage lo b1 b2) = .packet (nibbles 15#4 lo) b1 b2 := by
  cases lo using nib_cases <;> rfl

/-- R88, R89: a status byte is written again from its two nibbles. -/
theorem encode_decodePacket_of_status {b0 : Byte} (h : 8 ≤ (hiNib b0).toNat) (b1 b2 : Byte) :
    encode (decodePacket b0 b1 b2) = .packet (nibbles (hiNib b0) (loNib b0)) b1 b2 := by
  unfold decodePacket
  generalize hiNib b0 = hi at h
  cases hi using nib_cases
  case n0 | n1 | n2 | n3 | n4 | n5 | n6 | n7 => exact absurd h (by decide)
  case n15 => exact encode_decodeSystemMessage (loNib b0) b1 b2
  all_goals rfl

theorem encode_decodePacket (b0 b1 b2 : Byte) :
    encode (decodePacket b0 b1 b2) = .packet b0 b1 b2 := by
  rcases Nat.lt_or_ge (hiNib b0).toNat 8 with h | h
  · simp [decodePacket_of_notStatus h, encode, nonStatusByte_data7 b0 h]
  · rw [encode_decodePacket_of_status h, nibbles_hiNib_loNib]

/-! ### Round trips -/

/-- Settles O1: an operation is read back from the fields of its word, a channel-voice message from the
nibbles of its byte 0, a system message from its command byte. -/
theorem decodeEncodeRoundTrip : Obligations.DecodeEncodeRoundTrip := by
  intro i hwf hpseudo
  cases i
  case noteOff | noteOn | polyphonicAftertouch | controllerChange | programChange |
      channelAftertouch | pitchWheel => simp [encode, decode, decodePacket]
  case notStatus low b1 b2 =>
    have h := decodePacket_of_notStatus (hiNib_nonStatusByte_lt low) b1 b2
    rwa [data7_nonStatusByte] at h
  case encv k channel b1 b2 =>
    obtain ⟨hlo, hhi⟩ : 8#4 ≤ k ∧ k ≤ 14#4 := by simpa [Instr.wellFormed] using hwf
    exact (decode_commandWord 2#4 k channel b1 b2).trans (decodeEncv_of_kind hlo hhi channel b1 b2)
  case dec | encs | clsv | clss | frm => exact decode_commandWord ..
  case buildNoteOn | buildNoteOff | buildProgramChange | buildControllerChange => cases hpseudo
  all_goals rfl

/-- What a decoder can give: no ill-formed ENCV and no pseudo-operation (R96, R106). -/
def Decodable (i : Instr) : Prop := i.wellFormed = true ∧ i.isPseudo = false

theorem decodable_decodeSystemMessage (lo : Nib) (b1 b2 : Byte) :
    Decodable (decodeSystemMessage lo b1 b2) := by
  cases lo using nib_cases <;> exact ⟨rfl, rfl⟩

theorem decodable_decodePacket (b0 b1 b2 : Byte) : Decodable (decodePacket b0 b1 b2) := by
  unfold decodePacket
  generalize hiNib b0 = hi
  cases hi using nib_cases
  case n15 => exact decodable_decodeSystemMessage (loNib b0) b1 b2
  all_goals exact ⟨rfl, rfl⟩

theorem decodable_decodeEncv (k : Nib) (x0 x1 x2 : Byte) : Decodable (decodeEncv k x0 x1 x2) := by
  cases k using nib_cases <;> exact ⟨rfl, rfl⟩

theorem decodable_decodeFields (op k : Nib) (x0 x1 x2 : Byte) :
    Decodable (decodeFields op k x0 x1 x2) := by
  cases op using nib_cases
  case n2 => exact decodable_decodeEncv k x0 x1 x2
  all_goals exact ⟨rfl, rfl⟩

theorem decodable_decode : ∀ p : Presented, Decodable (decode p)
  | .word _ => decodable_decodeFields ..
  | .packet b0 b1 b2 => decodable_decodePacket b0 b1 b2

/-- Settles O6: what is decoded is `Decodable`, so the round trip of O1 holds of it. -/
theorem decodingLosesNothing : Obligations.DecodingLosesNothing := by
  refine ⟨encode_decodePacket, fun w => ?_, decodable_decode⟩
  obtain ⟨hwf, hpseudo⟩ := decodable_decode (.word w)
  exact decodeEncodeRoundTrip _ hwf hpseudo

/-! ### The opcode table -/

theorem commandWord_and_opMask (op k : Nib) (x0 x1 x2 : Byte) :
    commandWord op k x0 x1 x2 &&& 0xF0000000#32 = commandWord op 0#4 0#8 0#8 0#8 := by
  rw [and_opMask]
  simp [commandWord]

theorem commandWord_and_opKMask (op k : Nib) (x0 x1 x2 : Byte) :
    commandWord op k x0 x1 x2 &&& 0xFF000000#32 = commandWord op k 0#8 0#8 0#8 := by
  rw [and_opKMask]
  simp [commandWord]

/-- The table row of a system message fixes the whole of byte 0 (R89). -/
theorem tableRow_decodeSystemMessage (lo : Nib) (b1 b2 : Byte) :
    tableRow (decodeSystemMessage lo b1 b2) = .byte0 0xFF#8 (nibbles 15#4 lo) := by
  cases lo using nib_cases <;> rfl

/-- The table row of a packet, by the high nibble of byte 0 (R88 to R90). -/
theorem tableRow_decodePacket (b0 b1 b2 : Byte) :
    tableRow (decodePacket b0 b1 b2) =
      if (hiNib b0).toNat < 8 then .byte0 0x80#8 0x00#8
      else if hiNib b0 = 15#4 then .byte0 0xFF#8 (nibbles 15#4 (loNib b0))
      else .byte0 0xF0#8 (nibbles (hiNib b0) 0#4) := by
  unfold decodePacket
  generalize hiNib b0 = hi
  cases hi using nib_cases
  case n15 => exact tableRow_decodeSystemMessage (loNib b0) b1 b2
  all_goals rfl

/-- A word that is ENCV and names no kind: the command words with the longer mask (R96, R106). -/
def NamesNoKind (op k : Nib) : Prop := op = 2#4 ∧ (k < 8#4 ∨ 14#4 < k)

theorem tableRow_decodeEncv_of_kind {k : Nib} (h : ¬ (k < 8#4 ∨ 14#4 < k)) (x0 x1 x2 : Byte) :
    tableRow (decodeEncv k x0 x1 x2) = .word 0xF0000000#32 (commandWord 2#4 0#4 0#8 0#8 0#8) := by
  rw [decodeEncv_of_kind (by bv_omega) (by bv_omega)]
  rfl

theorem tableRow_decodeFields_of_noKind {op k : Nib} (h : NamesNoKind op k) (x0 x1 x2 : Byte) :
    tableRow (decodeFields op k x0 x1 x2) = .word 0xFF000000#32 (commandWord op k 0#8 0#8 0#8) := by
  obtain ⟨rfl, hk⟩ := h
  cases k using nib_cases
  case n8 | n9 | n10 | n11 | n12 | n13 | n14 => exact absurd hk (by decide)
  all_goals rfl

theorem tableRow_decodeFields_of_not_noKind {op k : Nib} (h : ¬ NamesNoKind op k) (x0 x1 x2 : Byte) :
    tableRow (decodeFields op k x0 x1 x2) = .word 0xF0000000#32 (commandWord op 0#4 0#8 0#8 0#8) := by
  cases op using nib_cases
  case n2 => exact tableRow_decodeEncv_of_kind (fun hk => h ⟨rfl, hk⟩) x0 x1 x2
  all_goals rfl

theorem and_bit7Mask {b : Byte} (h : (hiNib b).toNat < 8) : b &&& 0x80#8 = 0x00#8 := by
  revert b; decide

theorem and_hiMask_eq_nibbles (b : Byte) : b &&& 0xF0#8 = nibbles (hiNib b) 0#4 := by
  revert b; decide

theorem and_allMask (b : Byte) : b &&& 0xFF#8 = b := BitVec.and_allOnes

/-- R106: what is presented has the match of its row under the row's mask. -/
theorem tableRow_decode_matches (p : Presented) : (tableRow (decode p)).matches p = true := by
  cases p with
  | word w =>
    rw [← commandWord_fields w, decode_commandWord]
    by_cases h : NamesNoKind (opField w) (kField w)
    · rw [tableRow_decodeFields_of_noKind h]
      simp [TableRow.matches, commandWord_and_opKMask]
    · rw [tableRow_decodeFields_of_not_noKind h]
      simp [TableRow.matches, commandWord_and_opMask]
  | packet b0 b1 b2 =>
    rw [decode, tableRow_decodePacket]
    split_ifs with hlow hsys
    · simp [TableRow.matches, and_bit7Mask hlow]
    · rw [← hsys, nibbles_hiNib_loNib]
      simp [TableRow.matches, and_allMask]
    · simp [TableRow.matches, and_hiMask_eq_nibbles]

/-- How many bits the row that `p` decodes to fixes. -/
def maskBits (p : Presented) : Nat := (tableRow (decode p)).fixedBits

theorem maskBits_word_of_noKind {w : Word} (h : NamesNoKind (opField w) (kField w)) :
    maskBits (.word w) = 8 := by
  rw [maskBits, decode, tableRow_decodeFields_of_noKind h]
  rfl

theorem maskBits_word (w : Word) : 4 ≤ maskBits (.word w) := by
  by_cases h : NamesNoKind (opField w) (kField w)
  · rw [maskBits_word_of_noKind h]; decide
  · rw [maskBits, decode, tableRow_decodeFields_of_not_noKind h]
    exact Nat.le_refl 4

theorem maskBits_packet (b0 b1 b2 : Byte) :
    maskBits (.packet b0 b1 b2) =
      if (hiNib b0).toNat < 8 then 1 else if hiNib b0 = 15#4 then 8 else 4 := by
  rw [maskBits, decode, tableRow_decodePacket]
  split_ifs <;> rfl

/-- The rows of the table, the pseudo-operations' apart, by their masks (R88 to R90, R93, R95, R96). -/
inductive DecoderRow : TableRow → Prop where
  | notStatus : DecoderRow (.byte0 0x80#8 0x00#8)
  | voice (pattern : Byte) (h : 8 ≤ (hiNib pattern).toNat) : DecoderRow (.byte0 0xF0#8 pattern)
  | system (pattern : Byte) (h : hiNib pattern = 15#4) : DecoderRow (.byte0 0xFF#8 pattern)
  | operation (pattern : Word) : DecoderRow (.word 0xF0000000#32 pattern)
  | noKind (pattern : Word) (h : NamesNoKind (opField pattern) (kField pattern)) :
      DecoderRow (.word 0xFF000000#32 pattern)

theorem decoderRow_tableRow {i : Instr} (h : i.isPseudo = false) : DecoderRow (tableRow i) := by
  cases i
  case notStatus => exact .notStatus
  case noteOff | noteOn | polyphonicAftertouch | controllerChange | programChange |
      channelAftertouch | pitchWheel => exact .voice _ (by decide)
  case sysEx | otherF1 | songPosition | songSelect | otherF4 | otherF5 | tuneRequest | sysExEnd |
      timingClock | otherF9 | startMsg | continueMsg | stopMsg | otherFD | activeSensing |
      systemReset => exact .system _ rfl
  case encvIllegalK0 | encvIllegalK1 | encvIllegalK2 | encvIllegalK3 | encvIllegalK4 |
      encvIllegalK5 | encvIllegalK6 | encvIllegalK7 | encvIllegalK15 =>
    exact .noKind _ ⟨rfl, by decide⟩
  case buildNoteOn | buildNoteOff | buildProgramChange | buildControllerChange => cases h
  all_goals exact .operation _

theorem opField_and_opKMask (w : Word) : opField (w &&& 0xFF000000#32) = opField w := by
  conv_lhs => rw [← commandWord_fields w, commandWord_and_opKMask, opField_commandWord]

theorem kField_and_opKMask (w : Word) : kField (w &&& 0xFF000000#32) = kField w := by
  conv_lhs => rw [← commandWord_fields w, commandWord_and_opKMask, kField_commandWord]

/-- A packet that matches a row has the high nibble the row asks for, and that nibble
fixes how long the mask is. -/
theorem fixedBits_le_of_matches_packet {r : TableRow} (hr : DecoderRow r) {b0 b1 b2 : Byte}
    (hm : r.matches (.packet b0 b1 b2) = true) : r.fixedBits ≤ maskBits (.packet b0 b1 b2) := by
  rw [maskBits_packet]
  cases hr with
  | notStatus =>
    change 1 ≤ _
    split_ifs <;> decide
  | voice pattern h =>
    obtain rfl : b0 &&& 0xF0#8 = pattern := by simpa [TableRow.matches] using hm
    rw [and_hiMask_eq_nibbles, hiNib_nibbles] at h
    rw [if_neg (Nat.not_lt.2 h)]
    change 4 ≤ _
    split_ifs <;> decide
  | system pattern h =>
    obtain rfl : b0 = pattern := by simpa [TableRow.matches, and_allMask] using hm
    rw [h]
    exact Nat.le_refl 8
  | operation => cases hm
  | noKind => cases hm

/-- A word that matches a row with the longer mask is ENCV and names no kind, as the row does. -/
theorem fixedBits_le_of_matches_word {r : TableRow} (hr : DecoderRow r) {w : Word}
    (hm : r.matches (.word w) = true) : r.fixedBits ≤ maskBits (.word w) := by
  cases hr with
  | operation pattern => exact maskBits_word w
  | noKind pattern h =>
    obtain rfl : w &&& 0xFF000000#32 = pattern := by simpa [TableRow.matches] using hm
    rw [opField_and_opKMask, kField_and_opKMask] at h
    rw [maskBits_word_of_noKind h]
    exact Nat.le_refl 8
  | notStatus => cases hm
  | voice => cases hm
  | system => cases hm

/-- Settles O7: a row that is matched has a mask no longer than the one of the row decoded to. -/
theorem decoderTakesTheLongestMask : Obligations.DecoderTakesTheLongestMask := by
  refine fun p => ⟨tableRow_decode_matches p, fun i hpseudo hm => ?_⟩
  have hrow := decoderRow_tableRow hpseudo
  cases p with
  | word w => exact fixedBits_le_of_matches_word hrow hm
  | packet b0 b1 b2 => exact fixedBits_le_of_matches_packet hrow hm

/-! ### Illegal commands -/

/-- R95, R96: an illegal instruction raises IllegalCommand and does nothing else. -/
theorem exec_of_isIllegal {i : Instr} (h : isIllegal i = true) (s : State) :
    exec i s = .next (afterFault s 2#2) := by
  cases i
  case encv k channel b1 b2 =>
    have hnone : classifyChannelVoice k = none := by
      rw [← Option.not_isSome_iff_eq_none, classifyChannelVoice_isSome]
      have : k < 8#4 ∨ 14#4 < k := by simpa [isIllegal] using h
      bv_omega
    exact encodeChannelVoice_of_none hnone
  all_goals cases h
  all_goals rfl

/-- R92: the operation code of a word is the word shifted down by 28 bits. -/
theorem shift_eq_setWidth_opField (w : Word) : w >>> 28 = (opField w).setWidth 32 := by
  unfold opField
  bv_omega

/-- Settles O37: a reserved operation code decodes to an illegal row, and the nine rows are illegal. -/
theorem reservedCodesAreIllegal : Obligations.ReservedCodesAreIllegal := by
  refine ⟨fun w s hop => ?_, fun s => ⟨rfl, rfl, rfl, rfl, rfl, rfl, rfl, rfl, rfl⟩⟩
  have hreserved : opField w = 0#4 ∨ 8#4 ≤ opField w := by
    rw [shift_eq_setWidth_opField] at hop
    bv_omega
  exact exec_of_isIllegal (isIllegal_decodeFields_of_reserved hreserved ..) s

/-- Settles O38: a nibble that names no kind decodes to an illegal row; ENCS builds an event of any. -/
theorem encvWithoutKindIsIllegal : Obligations.EncvWithoutKindIsIllegal := by
  refine ⟨fun k x0 x1 x2 s hk => ?_, fun s => ⟨rfl, rfl, rfl, rfl, rfl, rfl, rfl, rfl, rfl⟩,
    fun k b1 b2 s => ⟨_, encodeSystem_eq k b1 b2 s, ⟨_, rfl, rfl⟩, rfl⟩⟩
  rw [decode_commandWord]
  exact exec_of_isIllegal ((isIllegal_decodeEncv k x0 x1 x2).trans (decide_eq_true hk)) s

end Sys2Proof.Proofs
end

section
/-! SUPPORT. The classification tables, the framer and the queries that expose them (40_classification
R110 to R120): which kind and which length each class of byte 0 has, and what CLSV, CLSS and FRM answer. -/

namespace Sys2Proof.Proofs

open Sys2Proof.Machine Sys2Proof.Claims

/-! ### The tables -/

theorem classifyChannelVoice_eq_some_iff (n : Nib) (k : CVKind) :
    classifyChannelVoice n = some k ↔ cvCode k = n :=
  ⟨cvCode_of_classify, fun h => h ▸ classify_cvCode k⟩

/-- R111: a nibble outside 8 to 14 has no kind. -/
theorem classifyChannelVoice_of_outside {n : Nib} (h : ¬ (8#4 ≤ n ∧ n ≤ 14#4)) :
    classifyChannelVoice n = none := by
  rwa [← Option.not_isSome_iff_eq_none, classifyChannelVoice_isSome]

/-- Settles O57: seven values of the table, its range, and `cvCode` read back by it. -/
theorem voiceTableAndInverse : Obligations.VoiceTableAndInverse := by
  refine ⟨rfl, rfl, rfl, rfl, rfl, rfl, rfl, fun n hn => ?_, classifyChannelVoice_eq_some_iff⟩
  exact classifyChannelVoice_of_outside (by bv_omega)

/-- R89: the command bytes are those from 0xF0 on. -/
theorem hiNib_eq_15_iff (b : Byte) : hiNib b = 15#4 ↔ 0xF0#8 ≤ b := by
  revert b; decide

/-- R98: a command byte is written again from its low nibble. -/
theorem commandByte_loNib {b : Byte} (h : hiNib b = 15#4) : commandByte (loNib b) = b := by
  rw [commandByte_eq_nibbles, ← h, nibbles_hiNib_loNib]

theorem classifySystemCommand_of_not_command (t : SysCmdTable) {b : Byte} (h : b < 0xF0#8) :
    classifySystemCommand t b = .none := by
  have hhi : hiNib b ≠ 15#4 := fun heq => absurd ((hiNib_eq_15_iff b).1 heq) (by bv_omega)
  exact if_neg hhi

/-- Settles O58: the table is run on the sixteen command bytes; a lower byte has another high nibble. -/
theorem systemTableOfMidi : Obligations.SystemTableOfMidi :=
  ⟨by decide, fun t _ hb => classifySystemCommand_of_not_command t hb⟩

/-- R112: every named kind has a command byte. -/
theorem nibOf_of_named (t : SysCmdTable) {k : SysKind} (hk : k ∈ namedSysKinds) :
    ∃ n, t.nibOf k = some n := by
  cases k
  case other | none => exact absurd hk (by decide)
  all_goals exact ⟨_, rfl⟩

/-- R112: a command byte that stands for no named kind is Other. -/
theorem classifySystemCommand_of_unnamed {t : SysCmdTable} {b : Byte} (hhi : hiNib b = 15#4)
    (h : ∀ k ∈ namedSysKinds, cmdByte t k ≠ some b) : classifySystemCommand t b = .other := by
  have hfind : namedSysKinds.find? (fun k => t.nibOf k == some (loNib b)) = none := by
    refine List.find?_eq_none.2 fun k hk hnib => h k hk ?_
    have hn : t.nibOf k = some (loNib b) := by simpa using hnib
    simp [cmdByte, hn, commandByte_loNib hhi]
  simp [classifySystemCommand, hhi, hfind]

/-- Settles O59: the table is injective on the named kinds, so their bytes are read back, and the search
for a kind of any other command byte fails. -/
theorem commandByteIsTheInverse : Obligations.CommandByteIsTheInverse := by
  intro c ⟨_, _, hinj⟩
  refine ⟨fun k hk => ?_, fun b hb h =>
    classifySystemCommand_of_unnamed ((hiNib_eq_15_iff b).2 hb) h⟩
  obtain ⟨n, hn⟩ := nibOf_of_named c.sysCmd hk
  exact ⟨commandByte n, by simp [cmdByte, hn], classifySystemCommand_commandByte hinj hk hn⟩

/-! ### The framer -/

/-- R113: a byte 0 whose high nibble has a channel-voice kind has that kind. -/
theorem kindOf_of_voice (t : SysCmdTable) {b0 : Byte} {k : CVKind}
    (h : classifyChannelVoice (hiNib b0) = some k) : kindOf t b0 = some (.cv k) :=
  nibbles_hiNib_loNib b0 ▸ kindOf_nibbles_cv t (loNib b0) h

/-- R113: a byte 0 with high nibble 15 has the kind of the system table. -/
theorem kindOf_of_system (t : SysCmdTable) {b0 : Byte} (h : hiNib b0 = 15#4) :
    kindOf t b0 = some (.sys (classifySystemCommand t b0)) :=
  commandByte_loNib h ▸ kindOf_commandByte t (loNib b0)

theorem frame_of_kindOf {c : Config} {b0 : Byte} {k : Kind} (h : kindOf c.sysCmd b0 = some k)
    (d1 : U7) : frame c b0 d1 = some (kindLength c k d1) := by
  simp [frame, h]

/-- R116: the framer fails on a byte 0 that is no status byte. -/
theorem frame_of_bit7_clear (c : Config) {b0 : Byte} (h : b0.getLsbD 7 = false) (d1 : U7) :
    frame c b0 d1 = none := by
  simp [frame, (kindOf_eq_none_iff_bit7 c.sysCmd b0).2 h]

/-- Settles O60: the length is that of the kind of byte 0, in each of the three classes. -/
theorem frameFollowsTheTables : Obligations.FrameFollowsTheTables := fun c _ d1 =>
  ⟨fun hclear => frame_of_bit7_clear c hclear d1,
    fun _ hk => frame_of_kindOf (kindOf_of_voice c.sysCmd hk) d1,
    fun hhi => frame_of_kindOf (kindOf_of_system c.sysCmd hhi) d1⟩

/-! ### The queries -/

/-- Settles O34: a nibble is within 8 to 14 exactly when it has a kind. -/
theorem clsvClassifiesTheNibble : Obligations.ClsvClassifiesTheNibble := by
  refine fun n s => ⟨fun _ _ _ => decode_commandWord .., ?_⟩
  split_ifs with hrange
  · obtain ⟨k, hk⟩ := Option.isSome_iff_exists.1 ((classifyChannelVoice_isSome n).2 hrange)
    exact execClsv_of_some hk
  · exact execClsv_of_none (classifyChannelVoice_of_outside hrange)

/-- R119 without its cases: CLSS answers the code and the length of the system kind. -/
theorem exec_clss (b : Byte) (s : State) {k : SysKind}
    (hk : classifySystemCommand s.cfg.sysCmd b = k) :
    exec (.clss b) s =
      .next (afterAnswer s 0#4 (sysCode k) (lenKnown (sysLength k)) (lenBits (sysLength k)) 0#3) :=
  hk ▸ rfl

/-- Settles O35: below 0xF0 the kind is None, whose code is 0 and whose length is not known. -/
theorem clssClassifiesTheByte : Obligations.ClssClassifiesTheByte := fun b s =>
  ⟨fun _ _ _ => decode_commandWord .., exec_clss b s rfl,
    fun hb => exec_clss b s (classifySystemCommand_of_not_command s.cfg.sysCmd hb)⟩

/-- R120: the two codes of FRM, each by itself. -/
theorem frameCodes_eq (t : SysCmdTable) (st : Byte) :
    frameCodes t st =
      (if classOf st = .channelVoice then hiNib st else 0#4,
        if classOf st = .channelVoice then 0#4 else sysCode (classifySystemCommand t st)) := by
  unfold frameCodes
  split <;> rfl

/-- The kind views of an event are the codes FRM answers for its byte 0 (R120). -/
theorem kindViews_eq_frameCodes {t : SysCmdTable} {e : Event} {k : Kind}
    (h : kindOf t e.raw0 = some k) :
    cvkView e = (frameCodes t e.raw0).1 ∧ sckView t e = (frameCodes t e.raw0).2 := by
  cases k with
  | cv k =>
    have hk := classify_of_kindOf_cv h
    have hclass : classOf e.raw0 = .channelVoice := if_pos (nib_range_of_classify hk)
    simpa [frameCodes, hclass] using kindViews_of_voice t hk
  | sys k =>
    obtain ⟨hhi, -⟩ := classify_of_kindOf_sys h
    have hclass : classOf e.raw0 = .system := by simp [classOf, hhi]
    simpa [frameCodes, hclass] using kindViews_of_system t hhi

/-- Settles O36: FRM and DEC both take the length of the kind of the status byte, and the codes of FRM
are the kind views of the event DEC builds. -/
theorem frmFramesWithoutTouchingTheEvent : Obligations.FrmFramesWithoutTouchingTheEvent := by
  refine fun st d x s => ⟨fun _ _ => decode_commandWord .., fun hclear =>
    execFrm_of_none (frame_of_bit7_clear s.cfg hclear (data7 d)), fun hset => ?_⟩
  obtain ⟨k, hk⟩ : ∃ k, kindOf s.cfg.sysCmd st = some k := by
    simp [← Option.ne_none_iff_exists', ne_eq, kindOf_eq_none_iff_bit7, hset]
  have hframe := frame_of_kindOf hk (data7 d)
  have hfrm := execFrm_of_some hframe
  obtain ⟨hcvk, hsck⟩ :=
    kindViews_eq_frameCodes (e := builtEvent st d x (kindLength s.cfg k (data7 d))) hk
  rw [builtEvent_raw0, frameCodes_eq] at hcvk hsck
  rw [frameCodes_eq] at hfrm
  exact ⟨_, _, hframe, hfrm, decodeFromBytes_of_some hk, rfl, rfl, hcvk, hsck⟩

end Sys2Proof.Proofs
end

section
/-! SUPPORT. Decoding (41_decode R130 to R151): what a decode answers for each class of byte 0, what the
length it writes depends on, and the rows of the space `midi_byte0` as the decodes they are. -/

namespace Sys2Proof.Proofs

open Sys2Proof.Machine Sys2Proof.Claims

/-! ### The three arms of the dispatcher (R110, R130) -/

/-- R150: the arm of a byte 0 that has no kind. -/
theorem decodeFromBytes_faults {b0 : Byte} {s : State} (h : kindOf s.cfg.sysCmd b0 = none)
    (b1 b2 : Byte) : ∃ t, decodeFromBytes b0 b1 b2 s = .next t ∧ DecodeFaulted s t :=
  ⟨_, decodeFromBytes_of_none h, rfl, rfl, rfl, rfl, rfl, rfl⟩

/-- R130, the arm of the channel-voice messages. -/
theorem decodeFromBytes_of_voice {b0 : Byte} {k : CVKind}
    (hk : classifyChannelVoice (hiNib b0) = some k) (b1 b2 : Byte) (s : State) :
    decodeFromBytes b0 b1 b2 s =
      .next (afterBuild s b0 b1 b2 (lenKnown (cvLength s.cfg k (data7 b1)))
        (lenBits (cvLength s.cfg k (data7 b1))) (cvCode k) 0#4) := by
  obtain ⟨hcvk, hsck⟩ := kindViews_of_voice s.cfg.sysCmd
    (e := builtEvent b0 b1 b2 (cvLength s.cfg k (data7 b1))) hk
  rw [decodeFromBytes_of_some (kindOf_of_voice s.cfg.sysCmd hk)]
  simp only [kindLength, hcvk, hsck, builtEvent_raw0, cvCode_of_classify hk]
  rfl

/-- R130, the arm of the system messages, for a byte 0 known by its high nibble. -/
theorem decodeFromBytes_of_system {b0 : Byte} (h : hiNib b0 = 15#4) (b1 b2 : Byte) (s : State) :
    decodeFromBytes b0 b1 b2 s =
      .next (afterBuild s b0 b1 b2 (lenKnown (sysLength (classifySystemCommand s.cfg.sysCmd b0)))
        (lenBits (sysLength (classifySystemCommand s.cfg.sysCmd b0))) 0#4
        (sysCode (classifySystemCommand s.cfg.sysCmd b0))) := by
  have hdec := decodeFromBytes_commandByte (loNib b0) b1 b2 s rfl
  rwa [commandByte_loNib h] at hdec

theorem hiNib_range_of_classOf {b0 : Byte} (h : classOf b0 = .channelVoice) :
    8#4 ≤ hiNib b0 ∧ hiNib b0 ≤ 14#4 := by
  revert b0; decide

theorem hiNib_of_classOf_system {b0 : Byte} (h : classOf b0 = .system) : hiNib b0 = 15#4 := by
  revert b0; decide

/-- Settles O18: both forms decode a byte 0 that has no kind. -/
theorem nonStatusByteFaults : Obligations.NonStatusByteFaults :=
  ⟨fun low b1 b2 _ =>
      decodeFromBytes_faults ((kindOf_eq_none_iff _ _).2 (hiNib_nonStatusByte_lt low)) b1 b2,
    fun b0 b1 b2 _ hclear =>
      decodeFromBytes_faults ((kindOf_eq_none_iff_bit7 _ b0).2 hclear) b1 b2⟩

/-- Settles O19: the word decodes by its operation code, and each class of byte 0 has its arm. -/
theorem decDecodesTheMessage : Obligations.DecDecodesTheMessage := by
  refine fun b0 b1 b2 s => ⟨fun k => decode_commandWord .., fun hclass => ?_, fun hclass => ?_,
    fun hclass => ?_⟩
  · exact decodeFromBytes_faults (by simp [kindOf, hclass]) b1 b2
  · obtain ⟨k, hk⟩ := Option.isSome_iff_exists.1
      ((classifyChannelVoice_isSome _).2 (hiNib_range_of_classOf hclass))
    exact ⟨k, hk, decodeFromBytes_of_voice hk b1 b2 s⟩
  · have hhi := hiNib_of_classOf_system hclass
    exact ⟨classifySystemCommand_ne_none s.cfg.sysCmd hhi, decodeFromBytes_of_system hhi b1 b2 s⟩

/-! ### Packets -/

/-- An instruction that is encoded as a packet runs as the decode of the bytes of that packet. -/
theorem exec_of_encode_packet {i : Instr} {b0 b1 b2 : Byte} (h : encode i = .packet b0 b1 b2)
    (s : State) : exec i s = decodeFromBytes b0 b1 b2 s := by
  cases i
  all_goals cases h
  all_goals rfl

/-- Settles O20: what a packet decodes to is encoded as that packet. -/
theorem packetRunsAsDec : Obligations.PacketRunsAsDec := fun b0 b1 b2 s =>
  exec_of_encode_packet (encode_decodePacket b0 b1 b2) s

/-! ### The length a decode writes (R151) -/

theorem lengthView_builtEvent (b0 b1 b2 : Byte) (l : Len) : lengthView (builtEvent b0 b1 b2 l) = l := by
  cases l <;> rfl

theorem channelView_of_voice {e : Event} (hlo : 8#4 ≤ hiNib e.raw0) (hhi : hiNib e.raw0 ≠ 15#4) :
    channelView e = loNib e.raw0 :=
  if_pos ⟨hlo, by bv_omega⟩

/-- R110: a status byte has a kind. -/
theorem exists_kindOf_of_bit7 (t : SysCmdTable) {b0 : Byte} (h : b0.getLsbD 7 = true) :
    ∃ k, kindOf t b0 = some k := by
  simp [← Option.ne_none_iff_exists', kindOf_eq_none_iff_bit7, h]

/-- R116, R130: a decode writes the event whose length is the framer's. -/
theorem decodeFromBytes_of_frame {b0 b1 : Byte} {s : State} {l : Len}
    (h : frame s.cfg b0 (data7 b1) = some l) (b2 : Byte) :
    ∃ t, decodeFromBytes b0 b1 b2 s = .next t ∧ t.ev = builtEvent b0 b1 b2 l := by
  obtain ⟨k, hk, rfl⟩ := Option.map_eq_some_iff.1 h
  exact ⟨_, decodeFromBytes_of_some hk, rfl⟩

theorem frame_of_voice {c : Config} {b0 : Byte} (k : CVKind) (h : hiNib b0 = cvCode k) (d1 : U7) :
    frame c b0 d1 = some (cvLength c k d1) :=
  frame_of_kindOf (kindOf_of_voice c.sysCmd (h ▸ classify_cvCode k)) d1

theorem frame_of_midi1 {c : Config} (ht : c.sysCmd = midi1Table) {b0 : Byte} {l : Len}
    (hhi : hiNib b0 = 15#4) (hl : sysLength (classifySystemCommand midi1Table b0) = l) (d1 : U7) :
    frame c b0 d1 = some l := by
  rw [frame_of_kindOf (kindOf_of_system c.sysCmd hhi), ht, kindLength, hl]

/-- P3: the messages of two bytes. -/
theorem frame_two {c : Config} {b0 : Byte}
    (h : hiNib b0 = 12#4 ∨ (b0 = 0xF3#8 ∧ c.sysCmd = midi1Table)) (d1 : U7) :
    frame c b0 d1 = some .two := by
  rcases h with hhi | ⟨rfl, ht⟩
  · exact frame_of_voice .programChange hhi d1
  · exact frame_of_midi1 ht rfl rfl d1

/-- R115 with the table of R112: the command bytes of one byte. -/
theorem sysLength_one_of_midi1 {b0 : Byte} (h : 0xF4#8 ≤ b0 ∨ b0 = 0xF1#8) :
    sysLength (classifySystemCommand midi1Table b0) = .one := by
  revert b0; decide

/-- P3: the messages of one byte. -/
theorem frame_one {c : Config} {b0 : Byte} (ht : c.sysCmd = midi1Table)
    (h : 0xF4#8 ≤ b0 ∨ b0 = 0xF1#8) (d1 : U7) : frame c b0 d1 = some .one :=
  frame_of_midi1 ht ((hiNib_eq_15_iff b0).2 (by bv_omega)) (sysLength_one_of_midi1 h) d1

/-- P3: the messages of three bytes, whatever the configuration's numbers are. -/
theorem frame_three {c : Config} {b0 : Byte}
    (h : hiNib b0 = 8#4 ∨ hiNib b0 = 9#4 ∨ hiNib b0 = 10#4 ∨ hiNib b0 = 14#4 ∨
      (b0 = 0xF2#8 ∧ c.sysCmd = midi1Table)) (d1 : U7) : frame c b0 d1 = some .three := by
  rcases h with hhi | hhi | hhi | hhi | ⟨rfl, ht⟩
  · exact frame_of_voice .noteOff hhi d1
  · exact frame_of_voice .noteOn hhi d1
  · exact frame_of_voice .polyphonicAftertouch hhi d1
  · exact frame_of_voice .pitchWheel hhi d1
  · exact frame_of_midi1 ht rfl rfl d1

/-- R114: ControllerChange is the one kind whose length looks at the first data value. -/
theorem kindLength_of_ne_controllerChange {k : Kind} (h : k ≠ .cv .controllerChange) (c : Config)
    (d1 d1' : U7) : kindLength c k d1 = kindLength c k d1' := by
  cases k with
  | cv k =>
    cases k
    case controllerChange => exact absurd rfl h
    all_goals rfl
  | sys k => rfl

/-- P4: outside 0xB0 to 0xBF the framer does not look at the first data value. -/
theorem frame_ignores_data1 {b0 : Byte} (h : hiNib b0 ≠ 11#4) (c : Config) (d1 d1' : U7) :
    frame c b0 d1 = frame c b0 d1' := by
  refine Option.map_congr fun k hk => kindLength_of_ne_controllerChange ?_ c d1 d1'
  rintro rfl
  exact h (cvCode_of_classify (classify_of_kindOf_cv hk)).symm

/-- Settles O21: the length is the framer's, so each clause about it is one about the framer. -/
theorem decKeepsDataChannelAndLength : Obligations.DecKeepsDataChannelAndLength := by
  intro b0 b1 b2 s hset
  obtain ⟨k, hk⟩ := exists_kindOf_of_bit7 s.cfg.sysCmd hset
  obtain ⟨l, hl⟩ : ∃ l, frame s.cfg b0 (data7 b1) = some l := ⟨_, frame_of_kindOf hk _⟩
  have hlo : 8#4 ≤ hiNib b0 := BitVec.le_def.2 ((bit7_iff_hiNib b0).1 hset)
  have hlen {l' : Len} (h : frame s.cfg b0 (data7 b1) = some l') : l = l' :=
    Option.some.inj (hl.symm.trans h)
  obtain ⟨t, ht, hev⟩ := decodeFromBytes_of_frame hl b2
  refine ⟨t, ht, ?_⟩
  rw [hev, lengthView_builtEvent]
  refine ⟨rfl, rfl, rfl, fun hhi => channelView_of_voice hlo hhi, fun h => hlen (frame_two h _),
    fun hmidi h => hlen (frame_one hmidi h _), fun h => hlen (frame_three h _), fun b1' b2' h => ?_⟩
  have hl' : frame s.cfg b0 (data7 b1') = some l := by
    rcases h with rfl | hhi
    · exact hl
    · rw [frame_ignores_data1 hhi, hl]
  obtain ⟨u, hu, hev'⟩ := decodeFromBytes_of_frame hl' b2'
  exact ⟨u, hu, hev' ▸ lengthView_builtEvent b0 b1' b2' l⟩

/-! ### The rows of the channel-voice messages (R131 to R137) -/

/-- R88: a channel-voice row is the decode of the byte of its kind nibble and its channel. -/
theorem decodeFromBytes_nibbles (k : CVKind) (ch : Nib) (b1 b2 : Byte) (s : State) :
    decodeFromBytes (nibbles (cvCode k) ch) b1 b2 s =
      .next (afterBuild s (nibbles (cvCode k) ch) b1 b2 (lenKnown (cvLength s.cfg k (data7 b1)))
        (lenBits (cvLength s.cfg k (data7 b1))) (cvCode k) 0#4) :=
  decodeFromBytes_of_voice (by rw [hiNib_nibbles, classify_cvCode]) b1 b2 s

/-- Settles O11: the four kinds have the length 3. -/
theorem threeByteVoiceMessages : Obligations.ThreeByteVoiceMessages := fun ch b1 b2 s =>
  ⟨decodeFromBytes_nibbles .noteOff ch b1 b2 s, decodeFromBytes_nibbles .noteOn ch b1 b2 s,
    decodeFromBytes_nibbles .polyphonicAftertouch ch b1 b2 s,
    decodeFromBytes_nibbles .pitchWheel ch b1 b2 s⟩

/-- R85 as a number. -/
theorem data7_toNat (b : Byte) : (data7 b).toNat = b.toNat % 128 := by
  revert b; decide

/-- R114, R43: the length fields of a ControllerChange, by the masked controller number. -/
theorem lengthFields_controllerChange (c : Config) (b1 : Byte) :
    lenKnown (cvLength c .controllerChange (data7 b1)) = true ∧
    lenBits (cvLength c .controllerChange (data7 b1)) =
      if b1.toNat % 128 < c.ccThreshold ∨ b1.toNat % 128 = c.ccLocal.toNat then 3#2 else 2#2 := by
  simp only [cvLength, ← BitVec.toNat_inj, data7_toNat]
  split_ifs <;> exact ⟨rfl, rfl⟩

/-- Settles O12: the row of ControllerChange, with its length fields. -/
theorem controllerChangeMessage : Obligations.ControllerChangeMessage := by
  intro ch b1 b2 s
  have hdec := decodeFromBytes_nibbles .controllerChange ch b1 b2 s
  obtain ⟨hlenv, hlen⟩ := lengthFields_controllerChange s.cfg b1
  rw [hlenv, hlen] at hdec
  exact hdec

/-- Settles O13: ProgramChange has the length 2, ChannelAftertouch none that is known. -/
theorem programChangeAndChannelAftertouch : Obligations.ProgramChangeAndChannelAftertouch :=
  fun ch b1 b2 s => ⟨decodeFromBytes_nibbles .programChange ch b1 b2 s,
    decodeFromBytes_nibbles .channelAftertouch ch b1 b2 s⟩

/-! ### The rows of the system messages, with the command bytes of R112 (R138 to R149) -/

/-- Under the table of R112 the row of a command byte builds the event of the kind the table names. -/
theorem decodeFromBytes_of_midi1 {s : State} (ht : s.cfg.sysCmd = midi1Table) (n : Nib) (k : SysKind)
    (hk : classifySystemCommand midi1Table (commandByte n) = k) (b1 b2 : Byte) :
    decodeFromBytes (commandByte n) b1 b2 s =
      .next (afterBuild s (commandByte n) b1 b2 (lenKnown (sysLength k)) (lenBits (sysLength k)) 0#4
        (sysCode k)) :=
  decodeFromBytes_commandByte n b1 b2 s (ht ▸ hk)

/-- Settles O14: the kinds that R112 gives 0xF0, 0xF2 and 0xF3, with their lengths. -/
theorem systemMessagesWithData : Obligations.SystemMessagesWithData := fun b1 b2 _ ht =>
  ⟨decodeFromBytes_of_midi1 ht 0#4 .sysEx rfl b1 b2,
    decodeFromBytes_of_midi1 ht 2#4 .songPosition rfl b1 b2,
    decodeFromBytes_of_midi1 ht 3#4 .songSelect rfl b1 b2⟩

/-- Settles O15: the eight named kinds of one byte, SystemReset among them. -/
theorem oneByteSystemMessages : Obligations.OneByteSystemMessages := fun b1 b2 _ ht =>
  ⟨decodeFromBytes_of_midi1 ht 6#4 .tuneRequest rfl b1 b2,
    decodeFromBytes_of_midi1 ht 7#4 .sysExEnd rfl b1 b2,
    decodeFromBytes_of_midi1 ht 8#4 .timingClock rfl b1 b2,
    decodeFromBytes_of_midi1 ht 10#4 .start rfl b1 b2,
    decodeFromBytes_of_midi1 ht 11#4 .cont rfl b1 b2,
    decodeFromBytes_of_midi1 ht 12#4 .stop rfl b1 b2,
    decodeFromBytes_of_midi1 ht 14#4 .activeSensing rfl b1 b2,
    decodeFromBytes_of_midi1 ht 15#4 .systemReset rfl b1 b2⟩

/-- Settles O16: R112 gives the five bytes to no named kind, so each is Other. -/
theorem reservedBytesAreOther : Obligations.ReservedBytesAreOther := fun b1 b2 _ ht =>
  ⟨decodeFromBytes_of_midi1 ht 1#4 .other rfl b1 b2,
    decodeFromBytes_of_midi1 ht 4#4 .other rfl b1 b2,
    decodeFromBytes_of_midi1 ht 5#4 .other rfl b1 b2,
    decodeFromBytes_of_midi1 ht 9#4 .other rfl b1 b2,
    decodeFromBytes_of_midi1 ht 13#4 .other rfl b1 b2⟩

end Sys2Proof.Proofs
end

section
/-! SUPPORT. Encoding (42_encode R160 to R171): the event each encoder builds, the pseudo-operations as the
ENCV they expand to, and the two directions of R164 between an encode and a decode. -/

namespace Sys2Proof.Proofs

open Sys2Proof.Machine Sys2Proof.Claims

/-! ### The bytes 0 the encoders write (R160, R161) -/

@[simp] theorem hiNib_statusByte (k : Nib) (c : Byte) : hiNib (statusByte k c) = k := by
  rw [statusByte_eq_nibbles, hiNib_nibbles]

@[simp] theorem loNib_statusByte (k : Nib) (c : Byte) : loNib (statusByte k c) = loNib c := by
  rw [statusByte_eq_nibbles, loNib_nibbles]

@[simp] theorem hiNib_commandByte (k : Nib) : hiNib (commandByte k) = 15#4 := by
  rw [commandByte_eq_nibbles, hiNib_nibbles]

@[simp] theorem loNib_setWidth (n : Nib) : loNib (n.setWidth 8) = n := by
  revert n; decide

/-- R160 on the nibbles of a byte writes that byte again. -/
theorem statusByte_hiNib_loNib (b : Byte) : statusByte (hiNib b) ((loNib b).setWidth 8) = b := by
  rw [statusByte_eq_nibbles, loNib_setWidth, nibbles_hiNib_loNib]

/-! ### ENCV and ENCS (R160, R161) -/

/-- R111: a nibble within 8 to 14 has a kind. -/
theorem exists_kind_of_range {k : Nib} (hlo : 8#4 ≤ k) (hhi : k ≤ 14#4) :
    ∃ kind, classifyChannelVoice k = some kind :=
  Option.isSome_iff_exists.1 ((classifyChannelVoice_isSome k).2 ⟨hlo, hhi⟩)

/-- R160: the encode of a nibble that has a kind. -/
theorem encodeChannelVoice_of_voice {k : Nib} {kind : CVKind} (h : classifyChannelVoice k = some kind)
    (c b1 b2 : Byte) (s : State) :
    encodeChannelVoice k c b1 b2 s =
      .next (afterBuild s (statusByte k c) b1 b2 (lenKnown (cvLength s.cfg kind (data7 b1)))
        (lenBits (cvLength s.cfg kind (data7 b1))) k 0#4) :=
  encodeChannelVoice_of_some h

/-- R96: ENCV with a nibble that names no kind is an illegal instruction. -/
theorem isIllegal_encv {k : Nib} (h : k < 8#4 ∨ 14#4 < k) (c b1 b2 : Byte) :
    isIllegal (.encv k c b1 b2) = true :=
  decide_eq_true h

/-- Settles O22: outside 8 to 14 the instruction and its word are illegal, within it the nibble has a
kind, and the word decodes to the instruction. -/
theorem encvBuildsTheEvent : Obligations.EncvBuildsTheEvent := by
  refine fun k channel b1 b2 s => ⟨fun hout => ⟨?_, ?_⟩, fun hlo hhi => ?_⟩
  · exact exec_of_isIllegal (isIllegal_encv hout channel b1 b2) s
  · exact encvWithoutKindIsIllegal.1 k channel b1 b2 s hout
  · obtain ⟨kind, hkind⟩ := exists_kind_of_range hlo hhi
    exact ⟨kind, hkind, (decode_commandWord ..).trans (decodeEncv_of_kind hlo hhi channel b1 b2),
      encodeChannelVoice_of_voice hkind channel b1 b2 s⟩

/-- Settles O24: the fields of the word, and the one equation of `encodeSystem`. -/
theorem encsBuildsTheEvent : Obligations.EncsBuildsTheEvent := fun k b1 b2 s =>
  ⟨fun _ => decode_commandWord .., encodeSystem_eq k b1 b2 s⟩

/-! ### ENCV by kind, and the pseudo-operations (R166, R168 to R171) -/

/-- R166: the encode of a kind, named by its code. -/
theorem encodeChannelVoice_cvCode (kind : CVKind) (c b1 b2 : Byte) (s : State) :
    encodeChannelVoice (cvCode kind) c b1 b2 s =
      .next (afterBuild s (statusByte (cvCode kind) c) b1 b2
        (lenKnown (cvLength s.cfg kind (data7 b1))) (lenBits (cvLength s.cfg kind (data7 b1)))
        (cvCode kind) 0#4) :=
  encodeChannelVoice_of_voice (classify_cvCode kind) c b1 b2 s

theorem encodeChannelVoice_controllerChange (c b1 b2 : Byte) (s : State) :
    encodeChannelVoice 11#4 c b1 b2 s =
      .next (afterBuild s (statusByte 11#4 c) b1 b2 true
        (if b1.toNat % 128 < s.cfg.ccThreshold ∨ b1.toNat % 128 = s.cfg.ccLocal.toNat then 3#2 else 2#2)
        11#4 0#4) := by
  obtain ⟨hlenv, hlen⟩ := lengthFields_controllerChange s.cfg b1
  rw [← hlen, ← hlenv]
  exact encodeChannelVoice_cvCode .controllerChange c b1 b2 s

/-- Settles O23: ControllerChange looks at the first data value, the length of each other kind is
fixed. -/
theorem encvByKind : Obligations.EncvByKind := fun channel b1 b2 s =>
  ⟨encodeChannelVoice_cvCode .noteOff channel b1 b2 s,
    encodeChannelVoice_cvCode .noteOn channel b1 b2 s,
    encodeChannelVoice_cvCode .polyphonicAftertouch channel b1 b2 s,
    encodeChannelVoice_controllerChange channel b1 b2 s,
    encodeChannelVoice_cvCode .programChange channel b1 b2 s,
    encodeChannelVoice_cvCode .channelAftertouch channel b1 b2 s,
    encodeChannelVoice_cvCode .pitchWheel channel b1 b2 s⟩

/-- R168 to R171: a pseudo-operation runs as the instruction it expands to. -/
theorem exec_expand (i : Instr) (s : State) : exec i s = exec (expand i) s := by
  cases i <;> rfl

/-- R168 to R171: a pseudo-operation has the word of the instruction it expands to. -/
theorem encode_expand (i : Instr) : encode i = encode (expand i) := by
  cases i <;> rfl

/-- Settles O25: each is an ENCV, so its event is the one of that kind. -/
theorem buildersBuildTheirEvent : Obligations.BuildersBuildTheirEvent := by
  intro x y channel s
  obtain ⟨hnoteOff, hnoteOn, -, hcontrollerChange, -⟩ := encvByKind channel x y s
  obtain ⟨-, -, -, -, hprogramChange, -⟩ := encvByKind channel x 0#8 s
  exact ⟨(exec_expand (.buildNoteOn x y channel) s).trans hnoteOn,
    (exec_expand (.buildNoteOff x y channel) s).trans hnoteOff,
    (exec_expand (.buildProgramChange x channel) s).trans hprogramChange,
    (exec_expand (.buildControllerChange x y channel) s).trans hcontrollerChange⟩

/-- A command word whose byte operand 2 is 0 has no last part (R94). -/
theorem commandWord_zero_x2 (op k : Nib) (x0 x1 : Byte) :
    commandWord op k x0 x1 0#8 =
      (op.setWidth 32 <<< 28) ||| (k.setWidth 32 <<< 24) ||| (x0.setWidth 32 <<< 16)
        ||| (x1.setWidth 32 <<< 8) := by
  simp [commandWord]

/-- R171, the example: a control number of 7 is below every threshold R8 allows. -/
theorem buildControllerChange_seven {s : State} (hwf : s.cfg.Wf) :
    ∃ t, exec (.buildControllerChange 7#8 80#8 1#8) s = .next t ∧
      t.ev = ⟨true, 0xB1#8, 7#7, 0x50#7, true, 3#2⟩ := by
  obtain ⟨hthreshold, -, -⟩ := hwf
  obtain ⟨-, -, -, hexec⟩ := buildersBuildTheirEvent 7#8 80#8 1#8 s
  have hlow : (7#8).toNat % 128 < s.cfg.ccThreshold := hthreshold
  rw [if_pos (.inl hlow)] at hexec
  exact ⟨_, hexec, rfl⟩

/-- R168 to R171: an instruction has the word, known as `p`, and the effect of its expansion. -/
theorem encode_and_exec_of_expand {i j : Instr} {p : Presented} (hexpand : expand i = j)
    (hword : encode i = p) (s : State) :
    encode i = encode j ∧ encode i = p ∧ exec i s = exec j s := by
  subst hexpand
  exact ⟨encode_expand i, hword, exec_expand i s⟩

/-- Settles O2: the expansions, the words with their two high nibbles put together, and the examples. -/
theorem pseudoOperationsExpand : Obligations.PseudoOperationsExpand := by
  refine ⟨fun _ _ _ => encode_and_exec_of_expand rfl rfl,
    fun _ _ _ => encode_and_exec_of_expand rfl rfl,
    fun p c => encode_and_exec_of_expand rfl
      (congrArg Presented.word (commandWord_zero_x2 2#4 12#4 c p)),
    fun _ _ _ => encode_and_exec_of_expand rfl rfl,
    rfl, rfl, rfl, rfl, fun s => ?_, fun _ hwf => buildControllerChange_seven hwf⟩
  obtain ⟨-, -, hexec, -⟩ := buildersBuildTheirEvent 5#8 0#8 2#8 s
  exact ⟨_, hexec, rfl⟩

/-! ### An encode and then a decode (R164) -/

/-- An event whose data bytes and length are read back from its fields (R22, R43). -/
theorem builtEvent_of_fields {e : Event} {l : Len} (hevv : e.evv = true) (hlenv : e.lenv = lenKnown l)
    (hlen : e.len = lenBits l) : builtEvent e.raw0 (dataByte e.raw1) (dataByte e.raw2) l = e := by
  rw [builtEvent, data7_dataByte, data7_dataByte, ← hevv, ← hlenv, ← hlen]

/-- A DEC of the raw bytes of any event whose length is the framer's leaves that event. -/
theorem exec_dec_rawView {s : State} (hevv : s.ev.evv = true) (hlen : LengthFramed s.cfg s.ev) :
    ∃ t, exec (.dec (rawView s.ev 0) (rawView s.ev 1) (rawView s.ev 2)) s = .next t ∧
      t.ev = s.ev ∧ t.cfg = s.cfg := by
  obtain ⟨l, hframe, hlenv, hlenBits⟩ := hlen
  rw [← data7_dataByte s.ev.raw1] at hframe
  obtain ⟨t, hexec, hev⟩ := decodeFromBytes_of_frame hframe (dataByte s.ev.raw2)
  exact ⟨t, hexec, hev.trans (builtEvent_of_fields hevv hlenv hlenBits),
    effect_cfg (effect_of_exec (i := .dec _ _ _) hexec)⟩

theorem lengthFramed_builtEvent {c : Config} {b0 b1 b2 : Byte} {k : Kind}
    (h : kindOf c.sysCmd b0 = some k) :
    LengthFramed c (builtEvent b0 b1 b2 (kindLength c k (data7 b1))) :=
  ⟨_, frame_of_kindOf h _, rfl, rfl⟩

/-- After an instruction that built the event of a byte 0 with the length of its kind, as the encoders
do, a DEC of the raw bytes builds it again. -/
theorem exec_dec_of_built {i : Instr} {s t : State} {b0 b1 b2 : Byte} {k : Kind}
    (hexec : exec i s = .next t) (hk : kindOf s.cfg.sysCmd b0 = some k)
    (hev : t.ev = builtEvent b0 b1 b2 (kindLength s.cfg k (data7 b1))) :
    ∃ u, exec (.dec (rawView t.ev 0) (rawView t.ev 1) (rawView t.ev 2)) t = .next u ∧
      u.ev = t.ev ∧ u.cfg = s.cfg := by
  have hcfg : t.cfg = s.cfg := effect_cfg (effect_of_exec hexec)
  have hlen : LengthFramed t.cfg t.ev := by
    rw [hcfg, hev]
    exact lengthFramed_builtEvent hk
  obtain ⟨u, hdec, hkept, hcfg'⟩ := exec_dec_rawView (by rw [hev]; rfl) hlen
  exact ⟨u, hdec, hkept, hcfg'.trans hcfg⟩

/-- The kind and the channel of an event that ENCV built (R180, R185). -/
theorem views_of_statusByte {k : Nib} (hlo : 8#4 ≤ k) (hhi : k ≤ 14#4) {c : Byte} {e : Event}
    (h : e.raw0 = statusByte k c) : cvkView e = k ∧ channelView e = loNib c := by
  simp [cvkView, channelView, h, hlo, hhi]

/-- The kinds and the channel of an event that ENCS built (R180, R185, R186). -/
theorem views_of_commandByte (t : SysCmdTable) {k : Nib} {e : Event} (h : e.raw0 = commandByte k) :
    cvkView e = 0#4 ∧ channelView e = 0#4 ∧
      sckView t e = sysCode (classifySystemCommand t (commandByte k)) := by
  simp [cvkView, channelView, sckView, h]

/-- Settles O26: the length an encoder writes is that of the kind of the byte 0 it writes, so the decode
leaves the event, and the views are read off the nibbles of that byte. -/
theorem encodeThenDecodeRoundTrip : Obligations.EncodeThenDecodeRoundTrip := by
  refine ⟨fun k channel b1 b2 s hlo hhi => ?_, fun k b1 b2 s => ?_⟩
  · obtain ⟨kind, hkind⟩ := exists_kind_of_range hlo hhi
    have hexec : exec (.encv k channel b1 b2) s = _ := encodeChannelVoice_of_some hkind
    obtain ⟨u, hdec, hev, -⟩ := exec_dec_of_built hexec (kindOf_statusByte _ channel hkind) rfl
    obtain ⟨hcvk, hchannel⟩ := views_of_statusByte hlo hhi (congrArg Event.raw0 hev)
    exact ⟨_, u, hexec, hdec, hev, hcvk, hchannel, congrArg data1View hev, congrArg data2View hev⟩
  · have hexec : exec (.encs k b1 b2) s = _ := encodeSystem_eq k b1 b2 s
    obtain ⟨u, hdec, hev, hcfg⟩ := exec_dec_of_built hexec (kindOf_commandByte _ k) rfl
    obtain ⟨hcvk, hchannel, hsck⟩ := views_of_commandByte s.cfg.sysCmd (congrArg Event.raw0 hev)
    exact ⟨_, u, hexec, hdec, hev, hcvk, hchannel, hcfg ▸ hsck, congrArg data1View hev,
      congrArg data2View hev⟩

/-! ### A decode is an encode (R164) -/

/-- R164 for a byte 0 of a channel-voice kind. -/
theorem encodeChannelVoice_eq_decode {b0 : Byte} {kind : CVKind}
    (h : classifyChannelVoice (hiNib b0) = some kind) (b1 b2 : Byte) (s : State) :
    encodeChannelVoice (hiNib b0) ((loNib b0).setWidth 8) b1 b2 s = decodeFromBytes b0 b1 b2 s := by
  rw [encodeChannelVoice_of_voice h, decodeFromBytes_of_voice h, statusByte_hiNib_loNib,
    cvCode_of_classify h]

/-- R164 for a command byte. -/
theorem encodeSystem_eq_decode {b0 : Byte} (h : hiNib b0 = 15#4) (b1 b2 : Byte) (s : State) :
    encodeSystem (loNib b0) b1 b2 s = decodeFromBytes b0 b1 b2 s := by
  rw [encodeSystem_eq, commandByte_loNib h, decodeFromBytes_of_system h]
  rfl

/-- Settles O27: a status byte names a system command or a channel-voice kind, and the encoder of either
writes its nibbles together again. -/
theorem decodeIsAnEncode : Obligations.DecodeIsAnEncode := by
  intro b0 b1 b2 s hset
  split_ifs with hhi
  · exact (encodeSystem_eq_decode hhi b1 b2 s).symm
  · have hlo : 8#4 ≤ hiNib b0 := BitVec.le_def.2 ((bit7_iff_hiNib b0).1 hset)
    obtain ⟨kind, hkind⟩ := exists_kind_of_range hlo (by bv_omega)
    exact (encodeChannelVoice_eq_decode hkind b1 b2 s).symm

end Sys2Proof.Proofs
end

section
/-! SUPPORT. The views of the event register (43_accessors R180 to R189): the bytes of a message and what a
consumer may read of them, the combined value as a bijection, the kind codes by byte 0. -/

namespace Sys2Proof.Proofs

open Sys2Proof.Machine Sys2Proof.Claims

/-! ### The bytes of a message (R187, 20_memory R78) -/

/-- R23, R43: a length is read back from the two fields that hold it. -/
theorem lenOf_lenKnown_lenBits (l : Len) : lenOf (lenKnown l) (lenBits l) = l := by
  cases l <;> rfl

theorem lengthView_of_lengthFramed {c : Config} {e : Event} (h : LengthFramed c e) :
    e.lenv = lenKnown (lengthView e) ∧ e.len = lenBits (lengthView e) := by
  obtain ⟨l, -, hlenv, hlen⟩ := h
  have hview : lengthView e = l := by rw [lengthView, hlenv, hlen, lenOf_lenKnown_lenBits]
  exact ⟨hview ▸ hlenv, hview ▸ hlen⟩

theorem lenKnown_eq_false_iff (l : Len) : lenKnown l = false ↔ l = .unknown := by
  cases l <;> decide

/-- R78: the bytes of a message of known length are the first of the raw bytes, as many as it has. -/
theorem wireBytes_of_known {e : Event} (hevv : e.evv = true) (h : lenKnown (lengthView e) = true) :
    wireBytes e = some ((List.ofFn (rawView e)).take (lenBits (lengthView e)).toNat) := by
  rw [wireBytes, if_pos hevv]
  cases hl : lengthView e
  case unknown => simp [hl, lenKnown] at h
  all_goals rfl

/-- R244: without a known length there is no list of bytes. -/
theorem wireBytes_of_unknown {e : Event} (h : lengthView e = .unknown) : wireBytes e = none := by
  simp [wireBytes, h]

theorem mayRead_iff (e : Event) (i : Fin 3) :
    mayRead e i = true ↔ e.evv = true ∧ e.lenv = true ∧ i.val < e.len.toNat := by
  simp [mayRead, and_assoc]

/-- Settles O55: the message is the first LEN raw bytes, so an index lies in it exactly when it is below
LEN. -/
theorem messageBytesLieWithinTheLength : Obligations.MessageBytesLieWithinTheLength := by
  intro c e hevv hframed
  obtain ⟨hlenv, hlen⟩ := lengthView_of_lengthFramed hframed
  refine ⟨fun hunknown => ⟨?_, fun i => ?_⟩, fun hknown => ?_⟩
  · exact wireBytes_of_unknown ((lenKnown_eq_false_iff _).1 (hlenv ▸ hunknown))
  · simp [mayRead, hunknown]
  · have hwire := wireBytes_of_known hevv (hlenv ▸ hknown)
    rw [← hlen] at hwire
    have hle : e.len.toNat ≤ 3 := Nat.le_of_lt_succ e.len.isLt
    have hcount : ((List.ofFn (rawView e)).take e.len.toNat).length = e.len.toNat := by
      simpa using hle
    refine ⟨_, hwire, hcount, fun i => ?_⟩
    rw [hcount, mayRead_iff]
    refine ⟨by simp [hevv, hknown], fun ⟨_, _, hi⟩ => ?_⟩
    rw [List.getElem?_take_of_lt hi, List.getElem?_ofFn, dif_pos i.isLt]

/-! ### The combined value (R183, R189 (e)) -/

/-- R189 (e): the parts have no bit in common, so the sum is an OR. -/
theorem combined_eq_or (d1 d2 : U7) :
    combined d1 d2 = d1.setWidth 14 ||| (d2.setWidth 14 <<< 7) := by
  refine BitVec.add_eq_or_of_and_eq_zero _ _ (BitVec.eq_of_getLsbD_eq fun i hi => ?_)
  rcases Nat.lt_or_ge i 7 with hlow | hhigh
  · simp [hlow]
  · simp [BitVec.getLsbD_of_ge d1 i hhigh]

theorem lowPart_toNat (v : U14) : ((v &&& 0x7F#14).setWidth 7).toNat = v.toNat % 128 := by
  have hmask : (v &&& 0x7F#14).setWidth 7 = v.setWidth 7 := by
    rw [BitVec.setWidth_and]
    exact BitVec.and_allOnes
  rw [hmask, BitVec.toNat_setWidth]

theorem highPart_toNat (v : U14) : ((v >>> 7).setWidth 7).toNat = v.toNat / 128 := by
  have hlt := v.isLt
  simp [Nat.shiftRight_eq_div_pow]
  omega

theorem combined_le (d1 d2 : U7) : (combined d1 d2).toNat ≤ 16383 :=
  Nat.le_of_lt_succ (combined d1 d2).isLt

theorem lowPart_combined (d1 d2 : U7) : (combined d1 d2 &&& 0x7F#14).setWidth 7 = d1 := by
  have hlt := d1.isLt
  apply BitVec.eq_of_toNat_eq
  rw [lowPart_toNat, combined_toNat]
  omega

theorem highPart_combined (d1 d2 : U7) : (combined d1 d2 >>> 7).setWidth 7 = d2 := by
  have hlt := d1.isLt
  apply BitVec.eq_of_toNat_eq
  rw [highPart_toNat, combined_toNat]
  omega

theorem combined_parts (v : U14) :
    combined ((v &&& 0x7F#14).setWidth 7) ((v >>> 7).setWidth 7) = v := by
  apply BitVec.eq_of_toNat_eq
  rw [combined_toNat, lowPart_toNat, highPart_toNat, Nat.mod_add_div]

/-- Settles O51: as numbers the parts are the remainder and the quotient by 128. -/
theorem combinedValueIsABijection : Obligations.CombinedValueIsABijection :=
  ⟨fun d1 d2 => ⟨combined_toNat d1 d2, combined_eq_or d1 d2, combined_le d1 d2,
    lowPart_combined d1 d2, highPart_combined d1 d2⟩, combined_parts⟩

/-! ### Bytes and nibbles as numbers (R189 (a) to (d)) -/

theorem loNib_toNat (b : Byte) : (loNib b).toNat = b.toNat % 16 := by
  revert b; decide

theorem hiNib_toNat (b : Byte) : (hiNib b).toNat = b.toNat / 16 := by
  revert b; decide

theorem nibbles_toNat (h l : Nib) : (nibbles h l).toNat = 16 * h.toNat + l.toNat := by
  revert h l; decide

/-- Settles O52: a status byte and a command byte are bytes put together of two nibbles. -/
theorem byteArithmetic : Obligations.ByteArithmetic := by
  refine ⟨fun b => ⟨data7_toNat b, loNib_toNat b, hiNib_toNat b⟩, fun k c => ?_, fun k => ?_⟩
  · rw [statusByte_eq_nibbles, nibbles_toNat, loNib_toNat]
  · rw [commandByte_eq_nibbles, nibbles_toNat]
    rfl

/-! ### The views by byte 0 (R180, R185, R186) -/

/-- R180, R185: outside 8 to 14 an event has neither a channel nor a channel-voice kind. -/
theorem voiceViews_of_outside {e : Event} (h : ¬ (8#4 ≤ hiNib e.raw0 ∧ hiNib e.raw0 ≤ 14#4)) :
    channelView e = 0#4 ∧ cvkView e = 0#4 :=
  ⟨if_neg h, if_neg h⟩

/-- Settles O53: the high nibble of byte 0 has a kind, is 15, or is below 8. -/
theorem viewsFollowTheStatusByte : Obligations.ViewsFollowTheStatusByte := by
  refine fun t e _ => ⟨fun k hk => ?_, fun hsys => ?_, fun hclear => ?_⟩
  · obtain ⟨hcvk, hsck⟩ := kindViews_of_voice t hk
    exact ⟨if_pos (nib_range_of_classify hk), hcvk.trans (cvCode_of_classify hk).symm, hsck⟩
  · obtain ⟨hcvk, hsck⟩ := kindViews_of_system t hsys
    obtain ⟨hchannel, -⟩ := voiceViews_of_outside (e := e) (by rw [hsys]; decide)
    exact ⟨hchannel, hcvk, hsck⟩
  · have hlow : ¬ 8 ≤ (hiNib e.raw0).toNat := by rw [← bit7_iff_hiNib, hclear]; decide
    obtain ⟨hchannel, hcvk⟩ := voiceViews_of_outside (e := e) (by bv_omega)
    exact ⟨hchannel, hcvk, if_neg (by bv_omega)⟩

/-! ### The raw bytes (R187, R22) -/

theorem dataByte_eq_append (v : U7) : dataByte v = (0#1 ++ v : BitVec (1 + 7)) := by
  revert v; decide

theorem dataByte_toNat (v : U7) : (dataByte v).toNat = v.toNat := by
  revert v; decide

/-- R183: the combined value by the two data bytes on the wire. -/
theorem combined_toNat_dataByte (d1 d2 : U7) :
    (combined d1 d2).toNat = (dataByte d1).toNat + (dataByte d2).toNat * 128 := by
  rw [combined_toNat, dataByte_toNat, dataByte_toNat, Nat.mul_comm]

/-- Settles O54: the raw bytes 1 and 2 are data values written as bytes. -/
theorem rawBytesAndCombinedAgree : Obligations.RawBytesAndCombinedAgree := fun e _ =>
  ⟨rfl, dataByte_eq_append e.raw1, dataByte_eq_append e.raw2, dataByte_bit7 e.raw1,
    dataByte_bit7 e.raw2, combined_toNat_dataByte e.raw1 e.raw2⟩

end Sys2Proof.Proofs
end

section
/-! SUPPORT. PUB (44_publish R190 to R206): the wires against the mapping, what PUB answers in each of its
three cases, and which instructions hand nothing to the bus (10_state R36, R39). -/

namespace Sys2Proof.Proofs

open Sys2Proof.Machine Sys2Proof.Claims

/-! ### The wires of a record (R204) -/

theorem wireOf_topic (k : CVKind) (e : Event) : (wireOf k e).topic = cvCode k := by
  cases k <;> rfl

theorem wireOf_ch (k : CVKind) (e : Event) :
    (wireOf k e).ch.toNat = ((mappingOf k e).lookup .channel).getD 16 := by
  cases k <;> rfl

/-- The first field is a data value zero-extended to 14 bits, or the combined value. -/
theorem mappingOf_first (k : CVKind) (e : Event) :
    (mappingOf k e).head?.map Prod.snd = some (wireOf k e).a.toNat := by
  have hzext : ((data1View e).setWidth 14).toNat = (data1View e).toNat :=
    BitVec.toNat_setWidth_of_le (by decide)
  cases k
  case pitchWheel => rfl
  all_goals exact congrArg some hzext.symm

theorem wireOf_bv_iff (k : CVKind) (e : Event) :
    (wireOf k e).bv = true ↔ (mappingOf k e).length = 3 := by
  cases k <;> simp [wireOf, mappingOf]

/-- `P_B` is the second field where there is one, else 0. -/
theorem wireOf_b (k : CVKind) (e : Event) :
    ((wireOf k e).bv = true → ((mappingOf k e)[1]?).map Prod.snd = some (wireOf k e).b.toNat) ∧
      ((wireOf k e).bv = false → (wireOf k e).b = 0#7) := by
  cases k
  case noteOff | noteOn | polyphonicAftertouch | controllerChange =>
    exact ⟨fun _ => rfl, fun hbv => (nomatch hbv)⟩
  case programChange | channelAftertouch | pitchWheel =>
    exact ⟨fun hbv => (nomatch hbv), fun _ => rfl⟩

/-- Settles O29: each wire against the field it carries, kind by kind. -/
theorem busPortCarriesTheMapping : Obligations.BusPortCarriesTheMapping := fun k e _ =>
  ⟨wireOf_topic k e, wireOf_ch k e, mappingOf_first k e, wireOf_bv_iff k e, wireOf_b k e⟩

/-! ### What PUB answers -/

/-- R185, R199: the channel-voice code of an event is not 0 exactly when byte 0 has a channel-voice
kind. -/
theorem cvkView_ne_zero_iff (e : Event) :
    cvkView e ≠ 0#4 ↔ ∃ k, classifyChannelVoice (hiNib e.raw0) = some k := by
  constructor
  · intro hne
    by_contra hnone
    have hout : ¬ (8#4 ≤ hiNib e.raw0 ∧ hiNib e.raw0 ≤ 14#4) := by
      rwa [← classifyChannelVoice_isSome, Option.isSome_iff_exists]
    exact hne (voiceViews_of_outside hout).2
  · rintro ⟨k, hk⟩
    obtain ⟨hlo, -⟩ := nib_range_of_classify hk
    have hcvk : cvkView e = hiNib e.raw0 := if_pos (nib_range_of_classify hk)
    bv_omega

/-- R190 to R197: PUB on a channel-voice event. -/
theorem exec_pub_of_voice {s : State} {k : CVKind} (hev : s.ev.evv = true)
    (hk : classifyChannelVoice (hiNib s.ev.raw0) = some k) :
    exec .pub s = .next (afterPublish s k (mappingOf k s.ev) (wireOf k s.ev)) := by
  obtain ⟨hcvk, -⟩ := kindViews_of_voice s.cfg.sysCmd hk
  refine (execPub_of_channelVoice hev hk).trans ?_
  rw [publishedResponse, hcvk]
  rfl

/-- PUB on an event whose high nibble is the code of `k`: the mapping and the wires may be written with
the low nibble of byte 0 as the channel (R180). -/
theorem exec_pub_of_cvCode {s u : State} (k : CVKind) (hev : s.ev.evv = true)
    (hk : hiNib s.ev.raw0 = cvCode k)
    (hu : channelView s.ev = loNib s.ev.raw0 →
      afterPublish s k (mappingOf k s.ev) (wireOf k s.ev) = u) :
    exec .pub s = .next u := by
  have hclass := (classifyChannelVoice_eq_some_iff _ k).2 hk.symm
  rw [exec_pub_of_voice hev hclass, hu (if_pos (nib_range_of_classify hclass))]

/-- Settles O28: each kind has its fields; the combined value of PitchWheel is a sum (R183). -/
theorem pubPublishesTheMapping : Obligations.PubPublishesTheMapping := by
  intro s hev
  have hcombined : (combined14View s.ev).toNat = s.ev.raw1.toNat + 128 * s.ev.raw2.toNat :=
    combined_toNat s.ev.raw1 s.ev.raw2
  refine ⟨fun hk => exec_pub_of_cvCode .noteOff hev hk fun hch => ?_,
    fun hk => exec_pub_of_cvCode .noteOn hev hk fun hch => ?_,
    fun hk => exec_pub_of_cvCode .polyphonicAftertouch hev hk fun hch => ?_,
    fun hk => exec_pub_of_cvCode .controllerChange hev hk fun hch => ?_,
    fun hk => exec_pub_of_cvCode .programChange hev hk fun hch => ?_,
    fun hk => exec_pub_of_cvCode .channelAftertouch hev hk fun hch => ?_,
    fun hk => exec_pub_of_cvCode .pitchWheel hev hk fun hch => ?_⟩
  all_goals
    simp only [mappingOf, wireOf, hch, hcombined]
    rfl

/-- Settles O33: the first PUB leaves the event as it is, so the second publishes the same record. -/
theorem pubTwicePublishesTwice : Obligations.PubTwicePublishesTwice := by
  intro s hev hvoice
  obtain ⟨k, hk⟩ := (cvkView_ne_zero_iff s.ev).1 hvoice
  have hfirst := exec_pub_of_voice hev hk
  have hsecond := exec_pub_of_voice
    (s := afterPublish s k (mappingOf k s.ev) (wireOf k s.ev)) hev hk
  exact ⟨_, _, ⟨k, mappingOf k s.ev⟩, hfirst, hsecond, rfl, rfl, rfl, List.append_assoc .., rfl, rfl⟩

/-- R200, R201: the code of the diagnostic of a system kind. -/
theorem diagCode_diagOf {k : SysKind} (h : k ≠ .none) :
    diagCode (diagOf k) =
      if k = .timingClock then 1#3
      else if k = .sysEx then 2#3
      else if k = .sysExEnd then 3#3
      else if k = .systemReset then 4#3
      else 5#3 := by
  cases k
  case none => exact absurd rfl h
  all_goals rfl

/-- Settles O30: a command byte has no channel-voice kind, and a system kind other than None. -/
theorem pubReportsTheDiagnostic : Obligations.PubReportsTheDiagnostic := by
  intro s hev hsys
  have hnone : classifyChannelVoice (hiNib s.ev.raw0) = none :=
    classifyChannelVoice_of_outside (by rw [hsys]; decide)
  obtain ⟨-, hsck⟩ := kindViews_of_system s.cfg.sysCmd hsys
  refine (execPub_of_system hev hnone).trans ?_
  rw [diagnosticResponse, hsck, diagCode_diagOf (classifySystemCommand_ne_none _ hsys)]
  rfl

/-- Settles O31: the arm of PUB for EVV = 0. -/
theorem pubWithoutEventFaults : Obligations.PubWithoutEventFaults := fun _ hev =>
  execPub_of_noEvent hev

/-- Settles O32: the event has a channel-voice kind and PUB publishes, or it has none and PUB answers a
diagnostic. -/
theorem publishedExactlyForVoiceKinds : Obligations.PublishedExactlyForVoiceKinds := by
  intro s hev
  cases hk : classifyChannelVoice (hiNib s.ev.raw0) with
  | some k =>
    have hvoice : cvkView s.ev ≠ 0#4 := (cvkView_ne_zero_iff s.ev).2 ⟨k, hk⟩
    exact ⟨_, _, exec_pub_of_voice hev hk, rfl, iff_of_true rfl hvoice, fun _ => ⟨k, rfl, rfl⟩,
      fun hpub => (nomatch hpub)⟩
  | none =>
    have hvoice : ¬ cvkView s.ev ≠ 0#4 := by simp [cvkView_ne_zero_iff, hk]
    exact ⟨_, _, execPub_of_system hev hk, rfl, iff_of_false Bool.false_ne_true hvoice,
      fun hpub => (nomatch hpub), fun _ => ⟨rfl, rfl⟩⟩

/-! ### What hands nothing to the bus (R36, R39, R202) -/

/-- From `s` the outcome is a next state that answers PUBLISHED = 0, with the bus history of `s` and an
empty bus port. -/
def Quiet (s : State) (o : Host.Outcome State Fault Refusal) : Prop :=
  ∃ r u, o = .next (drive r none u) ∧ r.published = false ∧ u.bus = s.bus

theorem decodeFromBytes_quiet (b0 b1 b2 : Byte) (s : State) : Quiet s (decodeFromBytes b0 b1 b2 s) := by
  cases hk : kindOf s.cfg.sysCmd b0 with
  | none => exact ⟨_, _, decodeFromBytes_of_none hk, rfl, rfl⟩
  | some k => exact ⟨_, _, decodeFromBytes_of_some hk, rfl, rfl⟩

theorem encodeChannelVoice_quiet (k : Nib) (c b1 b2 : Byte) (s : State) :
    Quiet s (encodeChannelVoice k c b1 b2 s) := by
  cases hk : classifyChannelVoice k with
  | none => exact ⟨_, _, encodeChannelVoice_of_none hk, rfl, rfl⟩
  | some kind => exact ⟨_, _, encodeChannelVoice_of_some hk, rfl, rfl⟩

theorem encodeSystem_quiet (k : Nib) (b1 b2 : Byte) (s : State) : Quiet s (encodeSystem k b1 b2 s) :=
  ⟨_, _, encodeSystem_eq k b1 b2 s, rfl, rfl⟩

theorem execClsv_quiet (n : Nib) (s : State) : Quiet s (execClsv n s) := by
  cases hk : classifyChannelVoice n with
  | none => exact ⟨_, _, execClsv_of_none hk, rfl, rfl⟩
  | some k => exact ⟨_, _, execClsv_of_some hk, rfl, rfl⟩

theorem execFrm_quiet (st d : Byte) (s : State) : Quiet s (execFrm st d s) := by
  cases hl : frame s.cfg st (data7 d) with
  | none => exact ⟨_, _, execFrm_of_none hl, rfl, rfl⟩
  | some l => exact ⟨_, _, execFrm_of_some hl, rfl, rfl⟩

/-- An instruction other than PUB is a constructor, a query or an illegal row, and none of them calls the
bus. -/
theorem exec_quiet {i : Instr} (hi : i ≠ .pub) (s : State) : Quiet s (exec i s) := by
  cases hb : buildsEvents i with
  | true =>
    obtain ⟨b0, b1, b2, _, hexec⟩ | ⟨k, c, b1, b2, _, hexec⟩ | ⟨k, b1, b2, hexec⟩ :=
      builds_of_buildsEvents hb
    · exact hexec ▸ decodeFromBytes_quiet b0 b1 b2 s
    · exact hexec ▸ encodeChannelVoice_quiet k c b1 b2 s
    · exact hexec ▸ encodeSystem_quiet k b1 b2 s
  | false =>
    cases i
    case pub => exact absurd rfl hi
    case clsv n => exact execClsv_quiet n s
    case frm st d => exact execFrm_quiet st d s
    all_goals cases hb
    all_goals exact ⟨_, _, rfl, rfl, rfl⟩

/-- PUB hands nothing to the bus unless it holds a channel-voice event. -/
theorem exec_pub_publishes_or_quiet (s : State) :
    (∃ k, classifyChannelVoice (hiNib s.ev.raw0) = some k ∧
      exec .pub s = .next (afterPublish s k (mappingOf k s.ev) (wireOf k s.ev))) ∨
    Quiet s (exec .pub s) := by
  cases hev : s.ev.evv with
  | false => exact .inr ⟨_, _, execPub_of_noEvent hev, rfl, rfl⟩
  | true =>
    cases hk : classifyChannelVoice (hiNib s.ev.raw0) with
    | none => exact .inr ⟨_, _, execPub_of_system hev hk, rfl, rfl⟩
    | some k => exact .inl ⟨k, rfl, exec_pub_of_voice hev hk⟩

theorem unpublished_of_quiet {s t : State} {r : Response}
    {o : Host.Outcome State Fault Refusal} (hquiet : Quiet s o) (ho : o = .next t)
    (hr : t.rsp = some r) : r.published = false ∧ t.bus = s.bus ∧ t.busPort = none := by
  obtain ⟨r', u, rfl, hpub, hbus⟩ := hquiet
  cases ho
  cases hr
  exact ⟨hpub, hbus, rfl⟩

/-- Settles O45: only PUB can publish, and it does so with the record of the event, or is quiet. -/
theorem busGrowsOnlyByPublishing : Obligations.BusGrowsOnlyByPublishing := by
  intro i s t r hexec hr
  by_cases hi : i = .pub
  · subst hi
    obtain ⟨k, hk, hpub⟩ | hquiet := exec_pub_publishes_or_quiet s
    · rw [hpub] at hexec
      cases hexec
      cases hr
      exact .inl ⟨rfl, rfl, k, hk, rfl, rfl⟩
    · exact .inr (unpublished_of_quiet hquiet hexec hr)
  · exact .inr (unpublished_of_quiet (exec_quiet hi s) hexec hr)

end Sys2Proof.Proofs
end

section
/-! SUPPORT. The faults (60_exceptions R211 to R220): the one STATUS the rules give a command, and for
every instruction a next state with that STATUS that a fault leaves as R215 and R216 say. -/

namespace Sys2Proof.Proofs

open Sys2Proof.Machine Sys2Proof.Claims

/-! ### The rules name one STATUS (R220) -/

/-- The rules of R211 to R213 and R218: when a command has the given STATUS. -/
def StatusRule (i : Instr) (s : State) : Status → Prop
  | .ok => ¬ (decodesNonStatus i ∨ queriesUnknown i) ∧ isIllegal i = false ∧
      ¬ (i = .pub ∧ s.ev.evv = false)
  | .unknownStatus => decodesNonStatus i ∨ queriesUnknown i
  | .illegalCommand => isIllegal i = true
  | .noEvent => i = .pub ∧ s.ev.evv = false

theorem isIllegal_of_decodedByte0 {i : Instr} {b0 : Byte} (h : decodedByte0 i = some b0) :
    isIllegal i = false := by
  cases i
  all_goals cases h
  all_goals rfl

theorem isIllegal_of_queriesUnknown {i : Instr} (h : queriesUnknown i) : isIllegal i = false := by
  cases i
  case clsv => rfl
  case frm => rfl
  all_goals cases h

theorem isIllegal_of_unknown {i : Instr} (h : decodesNonStatus i ∨ queriesUnknown i) :
    isIllegal i = false := by
  obtain ⟨b0, hb0, -⟩ | hquery := h
  · exact isIllegal_of_decodedByte0 hb0
  · exact isIllegal_of_queriesUnknown hquery

theorem not_decodesNonStatus_of_none {i : Instr} (h : decodedByte0 i = none) :
    ¬ decodesNonStatus i := by
  rintro ⟨b0, hb0, -⟩
  cases h.symm.trans hb0

theorem not_unknown_pub : ¬ (decodesNonStatus .pub ∨ queriesUnknown .pub) :=
  not_or.2 ⟨not_decodesNonStatus_of_none rfl, id⟩

/-- R220: the faults exclude each other, and STATUS = OK is what they leave. -/
theorem statusRule_unique {i : Instr} {s : State} {f g : Status} (hf : StatusRule i s f)
    (hg : StatusRule i s g) : f = g := by
  have hunknown : ¬ (StatusRule i s .unknownStatus ∧ StatusRule i s .illegalCommand) :=
    fun ⟨hu, hi⟩ => by cases (isIllegal_of_unknown hu).symm.trans hi
  have hnoEvent : StatusRule i s .noEvent →
      ¬ StatusRule i s .unknownStatus ∧ ¬ StatusRule i s .illegalCommand := by
    rintro ⟨rfl, -⟩
    exact ⟨not_unknown_pub, Bool.false_ne_true⟩
  have hok : StatusRule i s .ok → ¬ StatusRule i s .unknownStatus ∧
      ¬ StatusRule i s .illegalCommand ∧ ¬ StatusRule i s .noEvent :=
    fun ⟨hu, hi, hn⟩ => ⟨hu, by simp [StatusRule, hi], hn⟩
  cases f <;> cases g <;> tauto

theorem statusCode_injective {f g : Status} (h : statusCode f = statusCode g) : f = g := by
  revert h
  cases f <;> cases g <;> decide

/-! ### How a step answers -/

/-- `t` answers `i` as the rules ask: STATUS is OK, or the fault wrote no state, or it is the fault of a
decode, which drops the event (R215, R216). -/
inductive Answered (i : Instr) (s : State) : State → Prop where
  | ok {t : State} (hrule : StatusRule i s .ok) (hstatus : hasStatus t 0#2) : Answered i s t
  | faulted (f : Status) (hrule : StatusRule i s f) : Answered i s (afterFault s (statusCode f))
  | decodeFaulted {t : State} (hdec : decodesNonStatus i) (ht : DecodeFaulted s t) : Answered i s t

/-- The instructions with a byte 0 are the decodes of it (41_decode R130). -/
theorem exec_of_decodedByte0 {i : Instr} {b0 : Byte} (h : decodedByte0 i = some b0) :
    ∃ b1 b2, exec i = decodeFromBytes b0 b1 b2 := by
  cases i
  all_goals cases h
  all_goals exact ⟨_, _, rfl⟩

/-- A legal constructor of events faults at most by the byte 0 it decodes (R218). -/
theorem statusRule_ok_of_buildsEvents {i : Instr} (hb : buildsEvents i = true)
    (hlegal : isIllegal i = false) (hdec : ¬ decodesNonStatus i) (s : State) :
    StatusRule i s .ok := by
  refine ⟨fun hunknown => ?_, hlegal, ?_⟩
  · have hquery := hunknown.resolve_left hdec
    cases i
    case clsv => cases hb
    case frm => cases hb
    all_goals cases hquery
  · rintro ⟨rfl, -⟩
    cases hb

/-! ### What every instruction answers: the constructors -/

/-- R213 for the decodes. -/
theorem decode_answered {i : Instr} {b0 : Byte} (hb0 : decodedByte0 i = some b0) (s : State) :
    ∃ t, exec i s = .next t ∧ Answered i s t := by
  obtain ⟨b1, b2, hexec⟩ := exec_of_decodedByte0 hb0
  rw [hexec]
  cases hk : kindOf s.cfg.sysCmd b0 with
  | none =>
    obtain ⟨t, ht, hfaulted⟩ := decodeFromBytes_faults hk b1 b2
    exact ⟨t, ht, .decodeFaulted ⟨b0, hb0, (kindOf_eq_none_iff_bit7 _ b0).1 hk⟩ hfaulted⟩
  | some k =>
    have hdec : ¬ decodesNonStatus i := by simp [decodesNonStatus, hb0, bit7_of_kindOf hk]
    have hrule := statusRule_ok_of_buildsEvents (by simp [buildsEvents, hb0])
      (isIllegal_of_decodedByte0 hb0) hdec s
    exact ⟨_, decodeFromBytes_of_some hk, .ok hrule ⟨_, rfl, rfl⟩⟩

/-- R218: an encode of a kind never fails. -/
theorem encoder_answered {i : Instr} (henc : isEncoder i = true) (hnone : decodedByte0 i = none)
    (hlegal : isIllegal i = false) (s : State) : ∃ t, exec i s = .next t ∧ Answered i s t := by
  have hrule : StatusRule i s .ok := statusRule_ok_of_buildsEvents (by simp [buildsEvents, henc]) hlegal
    (not_decodesNonStatus_of_none hnone) s
  obtain ⟨b0, b1, b2, hb0, hexec⟩ | ⟨k, c, b1, b2, hrange, hexec⟩ | ⟨k, b1, b2, hexec⟩ :=
    builds_of_isEncoder henc
  · cases hnone.symm.trans hb0
  · obtain ⟨hlo, hhi⟩ := hrange hlegal
    obtain ⟨kind, hk⟩ := exists_kind_of_range hlo hhi
    exact ⟨_, hexec ▸ encodeChannelVoice_of_some hk, .ok hrule ⟨_, rfl, rfl⟩⟩
  · exact ⟨_, hexec ▸ encodeSystem_eq k b1 b2 s, .ok hrule ⟨_, rfl, rfl⟩⟩

theorem answered_of_buildsEvents {i : Instr} (hb : buildsEvents i = true) (hlegal : isIllegal i = false)
    (s : State) : ∃ t, exec i s = .next t ∧ Answered i s t := by
  cases hdec : decodedByte0 i with
  | some b0 => exact decode_answered hdec s
  | none => exact encoder_answered (by simpa [buildsEvents, hdec] using hb) hdec hlegal s

/-! ### What every instruction answers: the queries and PUB -/

/-- R118, R213: CLSV fails on a nibble that names no kind. -/
theorem queriesUnknown_clsv_iff (n : Nib) :
    queriesUnknown (.clsv n) ↔ classifyChannelVoice n = none := by
  change n < 8#4 ∨ 14#4 < n ↔ _
  revert n; decide

/-- R120, R213: FRM fails on a byte that the framer gives no length. -/
theorem queriesUnknown_frm_iff (c : Config) (st d : Byte) :
    queriesUnknown (.frm st d) ↔ frame c st (data7 d) = none := by
  simp [queriesUnknown, frame, kindOf_eq_none_iff_bit7]

theorem clsv_answered (n : Nib) (s : State) :
    ∃ t, exec (.clsv n) s = .next t ∧ Answered (.clsv n) s t := by
  cases hk : classifyChannelVoice n with
  | none =>
    exact ⟨_, execClsv_of_none hk, .faulted .unknownStatus (.inr ((queriesUnknown_clsv_iff n).2 hk))⟩
  | some k =>
    have hknown : ¬ queriesUnknown (.clsv n) := by simp [queriesUnknown_clsv_iff, hk]
    have hrule : StatusRule (.clsv n) s .ok :=
      ⟨not_or.2 ⟨not_decodesNonStatus_of_none rfl, hknown⟩, rfl, by simp⟩
    exact ⟨_, execClsv_of_some hk, .ok hrule ⟨_, rfl, rfl⟩⟩

theorem frm_answered (st d : Byte) (s : State) :
    ∃ t, exec (.frm st d) s = .next t ∧ Answered (.frm st d) s t := by
  cases hl : frame s.cfg st (data7 d) with
  | none =>
    exact ⟨_, execFrm_of_none hl,
      .faulted .unknownStatus (.inr ((queriesUnknown_frm_iff s.cfg st d).2 hl))⟩
  | some l =>
    have hknown : ¬ queriesUnknown (.frm st d) := by simp [queriesUnknown_frm_iff s.cfg, hl]
    have hrule : StatusRule (.frm st d) s .ok :=
      ⟨not_or.2 ⟨not_decodesNonStatus_of_none rfl, hknown⟩, rfl, by simp⟩
    exact ⟨_, execFrm_of_some hl, .ok hrule ⟨_, rfl, rfl⟩⟩

/-- R119: CLSS never fails. -/
theorem clss_answered (b : Byte) (s : State) :
    ∃ t, exec (.clss b) s = .next t ∧ Answered (.clss b) s t :=
  ⟨_, exec_clss b s rfl,
    .ok ⟨not_or.2 ⟨not_decodesNonStatus_of_none rfl, id⟩, rfl, by simp⟩ ⟨_, rfl, rfl⟩⟩

/-- R212: PUB fails when there is no event. -/
theorem pub_answered (s : State) : ∃ t, exec .pub s = .next t ∧ Answered .pub s t := by
  cases hev : s.ev.evv with
  | false => exact ⟨_, execPub_of_noEvent hev, .faulted .noEvent ⟨rfl, hev⟩⟩
  | true =>
    have hrule : StatusRule .pub s .ok := ⟨not_unknown_pub, rfl, by simp [hev]⟩
    cases hk : classifyChannelVoice (hiNib s.ev.raw0) with
    | none => exact ⟨_, execPub_of_system hev hk, .ok hrule ⟨_, rfl, rfl⟩⟩
    | some k => exact ⟨_, execPub_of_channelVoice hev hk, .ok hrule ⟨_, rfl, rfl⟩⟩

/-- Every instruction is an illegal one, a constructor, or one of PUB, CLSV, CLSS and FRM. -/
theorem exec_answered (i : Instr) (s : State) : ∃ t, exec i s = .next t ∧ Answered i s t := by
  cases hillegal : isIllegal i with
  | true => exact ⟨_, exec_of_isIllegal hillegal s, .faulted .illegalCommand hillegal⟩
  | false =>
    cases hb : buildsEvents i with
    | true => exact answered_of_buildsEvents hb hillegal s
    | false =>
      have hother : (buildsEvents i || isIllegal i) = false := by simp [hb, hillegal]
      cases i
      case pub => exact pub_answered s
      case clsv n => exact clsv_answered n s
      case clss b => exact clss_answered b s
      case frm st d => exact frm_answered st d s
      all_goals cases hother

theorem answered_of_exec {i : Instr} {s t : State} (h : exec i s = .next t) : Answered i s t := by
  obtain ⟨t', hexec, hans⟩ := exec_answered i s
  obtain rfl : t' = t := by simpa [hexec] using h
  exact hans

/-! ### The statements -/

/-- STATUS is the code of the one rule that applies. -/
theorem hasStatus_iff_of_answered {i : Instr} {s t : State} (h : Answered i s t) (g : Status) :
    hasStatus t (statusCode g) ↔ StatusRule i s g := by
  obtain ⟨f, hrule, r, hr, hcode⟩ : ∃ f, StatusRule i s f ∧ hasStatus t (statusCode f) := by
    cases h with
    | ok hrule hstatus => exact ⟨.ok, hrule, hstatus⟩
    | faulted f hrule => exact ⟨f, hrule, _, rfl, rfl⟩
    | decodeFaulted hdec ht =>
      obtain ⟨-, hrsp, -⟩ := ht
      exact ⟨.unknownStatus, .inl hdec, _, hrsp, rfl⟩
  constructor
  · rintro ⟨r', hr', hcode'⟩
    obtain rfl : r' = r := Option.some.inj (hr'.symm.trans hr)
    exact statusCode_injective (hcode.symm.trans hcode') ▸ hrule
  · exact fun hg => statusRule_unique hrule hg ▸ ⟨r, hr, hcode⟩

/-- Settles O39: the four clauses are the rules of the four codes. -/
theorem faultsExactlyWhereTheSpecRaisesThem : Obligations.FaultsExactlyWhereTheSpecRaisesThem := by
  intro i s
  obtain ⟨t, hexec, hans⟩ := exec_answered i s
  have hstatus := hasStatus_iff_of_answered hans
  exact ⟨t, hexec, hstatus .unknownStatus, hstatus .illegalCommand, hstatus .noEvent, hstatus .ok⟩

/-- Settles O40: a fault writes the response and the bus port alone, that of a decode the event too. -/
theorem faultsWriteNoState : Obligations.FaultsWriteNoState := by
  intro i s t hexec hfault
  cases answered_of_exec hexec with
  | ok _ hstatus => exact absurd hstatus hfault
  | faulted => exact ⟨.inl rfl, rfl, rfl, rfl, rfl⟩
  | decodeFaulted hdec ht =>
    obtain ⟨hevv, hrsp, hport, hbus, hcfg, hcmds⟩ := ht
    exact ⟨.inr ⟨hdec, ⟨_, hrsp, rfl⟩, hevv⟩, hbus, hport, hcfg, hcmds⟩

/-- Settles O41: a response that is not OK is the one of a fault, of either sort. -/
theorem faultResponseIsBare : Obligations.FaultResponseIsBare := by
  intro i s t r hexec hr hfault
  cases answered_of_exec hexec with
  | ok _ hstatus =>
    obtain ⟨r', hr', hok⟩ := hstatus
    obtain rfl : r' = r := Option.some.inj (hr'.symm.trans hr)
    exact absurd hok hfault
  | faulted => cases hr; rfl
  | decodeFaulted _ ht =>
    obtain ⟨-, hrsp, -⟩ := ht
    cases hrsp.symm.trans hr
    rfl

end Sys2Proof.Proofs
end

section
/-! SUPPORT. A run (70_reset_and_hazards R254, 10_state R36): what presenting one command leaves, and from
it, by induction over the commands, what the whole run leaves. Then the reset input (R240). -/

namespace Sys2Proof.Proofs

open Sys2Proof.Machine Sys2Proof.Claims

/-! ### One presented command -/

/-- With the commands written in that it already holds, a state is itself. -/
theorem withCmds_of_cmds {t : State} {ps : List Presented} (h : t.cmds = ps) :
    { t with cmds := ps } = t := by
  subst h
  rfl

theorem observe_cons {p : Presented} {ps : List Presented} {s t : State} {r : Response}
    (hstep : step { s with cmds := p :: ps } = .next t) (hrsp : t.rsp = some r) :
    observe (p :: ps) s = (r :: (observe ps t).1, (observe ps t).2) := by
  simp [observe, hstep, hrsp]

theorem core_run_succ {s t : State} (hstep : step s = .next t) (n : Nat) :
    Host.Core.run core (n + 1) s = Host.Core.run core n t := by
  have hcore : core.step s = .next t := hstep
  simp only [Host.Core.run, hcore]

/-- R202: a step appends one record when its response has PUBLISHED = 1, and else none. -/
theorem bus_of_step {p : Presented} {rest : List Presented} {s t : State} {r : Response}
    (hcmds : s.cmds = p :: rest) (hstep : step s = .next t) (hrsp : t.rsp = some r) :
    ∃ rs : List Publication, t.bus = s.bus ++ rs ∧ rs.length = if r.published then 1 else 0 := by
  have hexec : exec (decode p) (takeCommand rest s) = .next t := step_of_presented hcmds ▸ hstep
  obtain ⟨hpub, -, k, -, hbus, -⟩ | ⟨hpub, hbus, -⟩ := busGrowsOnlyByPublishing _ _ t r hexec hrsp
  · exact ⟨[⟨k, mappingOf k s.ev⟩], hbus, by simp [hpub]⟩
  · exact ⟨[], by simp [hbus], by simp [hpub]⟩

/-- The first command of a run is answered, and the rest of the run starts from the state it leaves. -/
theorem first_command (p : Presented) (ps : List Presented) (s : State) :
    ∃ t r, step { s with cmds := p :: ps } = .next t ∧ t.cmds = ps ∧
      observe (p :: ps) s = (r :: (observe ps t).1, (observe ps t).2) ∧
      ∃ rs : List Publication, t.bus = s.bus ++ rs ∧ rs.length = if r.published then 1 else 0 := by
  obtain ⟨t, r, hstep, hrsp, hcmds, -⟩ := everyCommandIsAnswered { s with cmds := p :: ps } p ps rfl
  have hbus := bus_of_step (s := { s with cmds := p :: ps }) rfl hstep hrsp
  exact ⟨t, r, hstep, hcmds, observe_cons hstep hrsp, hbus⟩

/-! ### The whole run -/

theorem length_observe (ps : List Presented) (s : State) : (observe ps s).1.length = ps.length := by
  induction ps generalizing s with
  | nil => rfl
  | cons p ps ih =>
    obtain ⟨t, r, -, -, hobs, -⟩ := first_command p ps s
    simp [hobs, ih t]

theorem core_run_observe (ps : List Presented) (s : State) :
    Host.Core.run core ps.length { s with cmds := ps } =
      .next { (observe ps s).2 with cmds := [] } := by
  induction ps generalizing s with
  | nil => rfl
  | cons p ps ih =>
    obtain ⟨t, r, hstep, hcmds, hobs, -⟩ := first_command p ps s
    calc Host.Core.run core (ps.length + 1) { s with cmds := p :: ps }
      _ = Host.Core.run core ps.length t := core_run_succ hstep _
      _ = Host.Core.run core ps.length { t with cmds := ps } := by rw [withCmds_of_cmds hcmds]
      _ = .next { (observe ps t).2 with cmds := [] } := ih t
      _ = .next { (observe (p :: ps) s).2 with cmds := [] } := by rw [hobs]

theorem bus_observe (ps : List Presented) (s : State) :
    ∃ rs : List Publication, (observe ps s).2.bus = s.bus ++ rs ∧
      rs.length = ((observe ps s).1.filter (fun r => r.published)).length := by
  induction ps generalizing s with
  | nil => exact ⟨[], (List.append_nil _).symm, rfl⟩
  | cons p ps ih =>
    obtain ⟨t, r, -, -, hobs, rs, hbus, hlen⟩ := first_command p ps s
    obtain ⟨rest, hrest, hcount⟩ := ih t
    refine ⟨rs ++ rest, by simp [hobs, hrest, hbus], ?_⟩
    cases hpub : r.published <;> simp [hobs, hpub, hlen, hcount, Nat.add_comm]

/-- Settles O10: the three parts, each by induction over the commands. -/
theorem runLeavesOneResponsePerCommand : Obligations.RunLeavesOneResponsePerCommand := fun ps s =>
  ⟨length_observe ps s, core_run_observe ps s, bus_observe ps s⟩

/-! ### The reset input -/

theorem applyReset_evv (s : State) : (applyReset s).ev.evv = false :=
  unspecifiedEvent_evv s.free

/-- Settles O49: `applyReset` writes or keeps each of the fields, and PUB finds no event after it. -/
theorem resetInputClearsTheEvent : Obligations.ResetInputClearsTheEvent := fun s =>
  ⟨applyReset_evv s, rfl, rfl, rfl, rfl, pubWithoutEventFaults (applyReset s) (applyReset_evv s)⟩

end Sys2Proof.Proofs
end
